-- ==== Sys2Proof/Word.lean ====
section
/-!
DEFINITION. The widths the spec gives its words: bytes of the line (R2), node addresses (00 Table 4),
millisecond stamps (R1) and the wrapping counters.
-/

namespace Sys2Proof

/-- One data byte of the line (01 section 1.1). -/
abbrev Byte := BitVec 8

/-- A node address, 6 bits wide (00 Table 4). -/
abbrev Addr := BitVec 6

/-- A time stamp of the millisecond count, wrapping at 2^32 (00 Table 3). -/
abbrev Time := BitVec 32

/-- A record number or a panel serial, wrapping at 2^32 (R136, R129). -/
abbrev Number := BitVec 32

/-- A charge number, wrapping at 2^16 (R85). -/
abbrev ChargeNo := BitVec 16

/-- A press, 0 to 3 (00, Numbering). -/
abbrev PressNo := Fin 4

/-- A zone, 0 to 15 (00, Numbering). -/
abbrev ZoneNo := Fin 16

/-- A slot of the history store, 0 to 63 (R134). -/
abbrev SlotNo := Fin 64

/-- A role target in the order of Table 24, 0 to 28 (R37). -/
abbrev TargetNo := Fin 29

/-- A recipe, 0 to 7 (R96). -/
abbrev RecipeNo := Fin 8

end Sys2Proof
end

