-- ==== Sys2Proof/Syntax.lean ====
section
/-!
DEFINITION. The commands of the PL16: one constructor of `Instr` per row of spec/opcode_table.json.
-/

namespace Sys2Proof

/-- The four kinds of line symbol (01 section 1.1). -/
inductive Symbol where
  | idle
  | startDelim
  | endDelim
  | data (b : Byte)
  deriving DecidableEq, Repr

/-- The commands. The first group are the pins, the line and the part's own events; the second the
management operations of Table 85, each with the request's source address and tag (R150). -/
inductive Instr where
  /-- POWER_ON: RSTn rises with the straps ADDR[2:0] at this value (R1). -/
  | powerOn (straps : BitVec 3)
  /-- RESET_ASSERT: RSTn falls (R10). -/
  | resetAssert
  /-- U_IN_FRAME: the symbols received on U-in up to a frame's completion (R2, R3, R6). -/
  | uInFrame (symbols : List Symbol)
  /-- D_IN_FRAME: the symbols received on D-in up to a frame's completion (R2, R3, R7). -/
  | dInFrame (symbols : List Symbol)
  /-- D_OUT_TRANSMISSION_END: the frame on D-out has been sent (R10). -/
  | dOutEnd
  /-- U_OUT_TRANSMISSION_END: the frame on U-out has been sent (R10). -/
  | uOutEnd
  /-- CONTROL_PERIOD: the control period of a counted departure is taken (R60). -/
  | controlPeriod
  /-- GUARD_SAMPLE: a millisecond event's sample of the guard pins; bit n is the level of GDn (R118). -/
  | guardSample (levels : BitVec 4)
  /-- GUARD_LEVEL_ACCEPTED: the acceptance at a third differing sample of an input (R119). -/
  | guardLevelAccepted (input : Fin 4)
  /-- SYNC_TIMEOUT: the sync timer expires (R17). -/
  | syncTimeout
  /-- SILENCE_TIMEOUT: the line silence timer expires (R19). -/
  | silenceTimeout
  /-- CENSUS_WINDOW_EXPIRY: the census answer window closes by expiry (R22). -/
  | censusWindowExpiry
  /-- TARGET_AGE_EXPIRY: a role target's age timer expires (R35). -/
  | targetAgeExpiry (target : TargetNo)
  /-- WEIGH_SIGNAL_CHECK: the weigh station's check at a millisecond event (R83). -/
  | weighSignalCheck
  /-- CHARGE_EXPIRED: a queued charge's expiry timer expires (R88). -/
  | chargeExpired (number : ChargeNo)
  /-- CLOSE_TIMER_EXPIRY (R105). -/
  | closeTimerExpiry (press : PressNo)
  /-- DWELL_TIMER_EXPIRY (R106). -/
  | dwellTimerExpiry (press : PressNo)
  /-- OPEN_HOLD_EXPIRED: the hold timer expires (R109). -/
  | openHoldExpired (press : PressNo)
  /-- OPEN_TIMEOUT: the open timer expires (R110). -/
  | openTimeout (press : PressNo)
  /-- EJECT_TIMER_EXPIRY (R124). -/
  | ejectTimerExpiry (press : PressNo)
  /-- PACE_TIMER_EXPIRY: channel 1's pace timer expires (R145). -/
  | paceTimerExpiry
  /-- LONG_READ_PART: a ready long-read context builds its next part (R155). -/
  | longReadPart
  /-- IDENT (R161). -/
  | ident (src : Addr) (tag : Byte)
  /-- STATUS (R170). -/
  | status (src : Addr) (tag : Byte)
  /-- COUNTERS (R173). -/
  | counters (src : Addr) (tag : Byte)
  /-- NOTICE_ENABLE with the new mask, kind code n at bit n (R169). -/
  | noticeEnable (src : Addr) (tag : Byte) (mask : BitVec 24)
  /-- TABLE_READ of a table identifier, first entry and entry count (R156). -/
  | tableRead (src : Addr) (tag table first count : Byte)
  /-- TABLE_READ_MARK of a table identifier and entry (R159). -/
  | tableReadMark (src : Addr) (tag table entry : Byte)
  /-- TABLE_WRITE of an entry's whole content (R157). -/
  | tableWrite (src : Addr) (tag table entry : Byte) (content : List Byte)
  /-- TABLE_WRITE_IF_MARKED (R159). -/
  | tableWriteIfMarked (src : Addr) (tag table entry : Byte) (content : List Byte)
  /-- MODE_RUN (R162). -/
  | modeRun (src : Addr) (tag : Byte)
  /-- MODE_STOP with the force flag's byte (R163). -/
  | modeStop (src : Addr) (tag force : Byte)
  /-- RESTART (R164). -/
  | restart (src : Addr) (tag : Byte)
  /-- CENSUS_START (R21). -/
  | censusStart (src : Addr) (tag : Byte)
  /-- PRESS_ASSIGN of a press and a recipe byte, 255 for none (R102). -/
  | pressAssign (src : Addr) (tag press recipe : Byte)
  /-- PRESS_ABORT (R113). -/
  | pressAbort (src : Addr) (tag press : Byte)
  /-- PRESS_SCRAP (R113). -/
  | pressScrap (src : Addr) (tag press : Byte)
  /-- WEIGH_RECIPE with a recipe byte, 255 for none (R77). -/
  | weighRecipe (src : Addr) (tag recipe : Byte)
  /-- WEIGH_TARE (R82). -/
  | weighTare (src : Addr) (tag : Byte)
  /-- CHARGE_DISCARD of a charge number (R90). -/
  | chargeDiscard (src : Addr) (tag : Byte) (number : ChargeNo)
  /-- DRAIN_START with a mode code and a count field (R140). -/
  | drainStart (src : Addr) (tag mode count : Byte)
  /-- DRAIN_STOP (R143). -/
  | drainStop (src : Addr) (tag : Byte)
  /-- RELEASE up to a record number (R139). -/
  | release (src : Addr) (tag : Byte) (number : Number)
  /-- RECORD_READ of a record number (R147). -/
  | recordRead (src : Addr) (tag : Byte) (number : Number)
  /-- SERIAL_BASE with the new counter value (R129). -/
  | serialBase (src : Addr) (tag : Byte) (value : Number)
  deriving DecidableEq, Repr

end Sys2Proof
end

