-- ==== Sys2Proof/Decode.lean ====
section
/-!
DEFINITION. The command a word spells. spec/opcode_table.json gives bits to none of its rows, so no word
spells a command (log 20).
-/

namespace Sys2Proof

/-- The command spelled by `nbits` bits of `w` under the opcode table's numbering: none, since the table
gives no row any bits. -/
def decodeTableWord (nbits w : Nat) : Option Instr :=
  match nbits, w with
  | _, _ => none

end Sys2Proof
end

