-- ==== Sys2Proof/Config.lean ====
section
/-!
DEFINITION. The free values: constants without a body, so that nothing can be proved of their values.
-/

namespace Sys2Proof

/-- The place at which an event due at a millisecond is put among the others due at it. The spec lets
either of two such events be taken first (R34, R35, R88, R104, R119), so no order is chosen: the place is
this constant at a fresh argument (DESIGN CHOICE, safe: log 3). -/
opaque Config.dueOrder : Nat → Nat

/-- The levels of GD0 to GD3 (bit n is GDn) that the step's own millisecond event samples (R118). The pins
are outside inputs, so the levels are this constant at a fresh argument (DESIGN CHOICE, safe: log 4). -/
opaque Config.guardPins : Nat → BitVec 4

end Sys2Proof
end

