-- ==== Sys2Proof/Machine/State.lean ====
section
/-!
DEFINITION. The state of the PL16 as plain data, and its value right after power-on (R1 and the power-on
values each rule gives). The order of the constructors of a coded list is the order of its defining table
or rule, by which R174 codes it.
-/

namespace Sys2Proof.Machine

open Sys2Proof

/-- The device mode (R161). -/
inductive Mode where
  | config
  | run
  deriving DecidableEq, Repr

/-! ## Frames and the line (01) -/

/-- A whole good frame: header, payload and CRC exactly as received or built (R5, Table 103). The length
byte is the payload's length. -/
structure Frame where
  dst : Byte
  src : Byte
  kind : Byte
  payload : List Byte
  crc : BitVec 16
  deriving DecidableEq, Repr

/-- A receive checker: in COLLECT or WAIT, the byte count, and the bytes kept, at most 70 (R2). -/
structure Checker where
  collecting : Bool
  count : Nat
  kept : List Byte
  deriving DecidableEq, Repr

/-- A frame in the DOWN buffer. `strokeOf` names the press whose latest stroke this EJECT began;
`awaitedBy` the press whose WAITING halt waits for it (R125); `uncounted` marks a SYNC that was in the buffer when
the sync watch entered SYNC_LOST (R59). -/
structure DownItem where
  frame : Frame
  strokeOf : Option PressNo
  awaitedBy : Option PressNo
  uncounted : Bool
  deriving DecidableEq, Repr

/-- The two kinds of frame the release list holds (R13). -/
inductive ReleaseKind where
  | openCmd
  | label
  deriving DecidableEq, Repr

/-- A frame in the release list, with the press it belongs to (R13, R103). -/
structure ReleaseItem where
  press : PressNo
  kind : ReleaseKind
  frame : Frame
  deriving DecidableEq, Repr

/-- The sources of U-out (Table 12). -/
inductive USource where
  | up
  | response
  | notice
  | drain0
  deriving DecidableEq, Repr

/-- The sources of D-out (Table 11). -/
inductive DSource where
  | halt
  | burst
  | release
  | probe
  | down
  | drain1
  deriving DecidableEq, Repr

/-- U-out while SENDING: the frame, fixed at its grant, and its source (R10). -/
structure USend where
  frame : Frame
  source : USource
  deriving DecidableEq, Repr

/-- D-out while SENDING (R10). -/
structure DSend where
  frame : Frame
  source : DSource
  deriving DecidableEq, Repr

/-- The block-drain hold (R15). -/
inductive DrainHold where
  | off
  | held
  | yielded
  deriving DecidableEq, Repr

/-- The receive checkers, the buffers and the two out-halves. An out-half that is `none` is IDLE. -/
structure Line where
  uChk : Checker
  dChk : Checker
  up : List Frame
  down : List DownItem
  release : List ReleaseItem
  burst : List Frame
  uOut : Option USend
  dOut : Option DSend
  hold : DrainHold
  deriving DecidableEq, Repr

/-- A running timer: the millisecond count at its start and its duration in milliseconds (R104). -/
structure Timer where
  start : Time
  dur : Nat
  deriving DecidableEq, Repr

/-- The sync watch: in SYNC_LOST or SYNC_OK, and its timer (R17). -/
structure SyncWatch where
  lost : Bool
  timer : Option Timer
  deriving DecidableEq, Repr

/-- The loss watch on D-in: D_LOST or D_OK, the cause set, the outcome window oldest first (true is good),
the good run and the silence timer (R18, R19). -/
structure LossWatch where
  lost : Bool
  silence : Bool
  burst : Bool
  window : List Bool
  goodRun : Nat
  timer : Option Timer
  deriving DecidableEq, Repr

/-- The census states (Table 16). -/
inductive CensusState where
  | idle
  | running
  | done
  deriving DecidableEq, Repr

/-- Where the probe of the address at the head of the list stands while the census is RUNNING (R22). -/
inductive CensusPhase where
  | none
  | pending
  | sending
  | window (t : Timer)
  deriving DecidableEq, Repr

/-- A census verdict (R23). -/
inductive CensusVerdict where
  | pass
  | fail
  deriving DecidableEq, Repr

/-- The census: addresses still to probe (the one in hand first), expected count, addresses missing so far
in ascending order, whether a relevant write was taken while RUNNING, the verdict once DONE, and the pass
latch (R21 to R24). -/
structure Census where
  state : CensusState
  phase : CensusPhase
  todo : List Addr
  expected : Nat
  missing : List Addr
  dirty : Bool
  verdict : Option CensusVerdict
  passLatch : Bool
  deriving DecidableEq, Repr

/-! ## Tables -/

/-- The roles of a channel table entry (Table 19). -/
inductive Role where
  | none
  | zoneTc
  | weigh
  | platen
  | ejectForce
  | ejectPos
  deriving DecidableEq, Repr

/-- A channel table entry; the maximum age is held in its units of 10 ms (R25). -/
structure ChtEntry where
  node : Addr
  channel : Nat
  role : Role
  index : Nat
  ageUnits : Nat
  deriving DecidableEq, Repr

/-- A breakpoint of a linearisation curve: raw count and temperature in tenths (R39). -/
structure Breakpoint where
  raw : Nat
  temp : Int
  deriving DecidableEq, Repr

/-- A zone table entry (Table 35). Heater node 0 is none. -/
structure ZtEntry where
  curve : Fin 2
  offset : Int
  heater : Addr
  channel : Nat
  fallback : Nat
  grace : Nat
  deriving DecidableEq, Repr

/-- A recipe (Table 59): six setpoints, gains, ceiling, charge window, times, envelope and eject limits. -/
structure Recipe where
  setpoints : List Nat
  kp : Nat
  ki : Nat
  ceiling : Nat
  target : Nat
  tolLow : Nat
  tolHigh : Nat
  outTime : Nat
  cureTable : Nat
  threshold : Nat
  dwell : Nat
  openHold : Nat
  segMax : List Nat
  segLen : Nat
  peakLimit : Nat
  debounce : Nat
  retries : Nat
  overrideOk : Bool
  deriving DecidableEq, Repr

/-- A press table entry (Table 58). Ejector or marker node 0 is none. -/
structure PtEntry where
  zones : List ZoneNo
  closedAt : Nat
  openAt : Nat
  outAt : Nat
  homeAt : Nat
  ejector : Addr
  haltCode : Byte
  marker : Addr
  guardUsed : Bool
  closeMs : Nat
  openMs : Nat
  ejectMs : Nat
  deriving DecidableEq, Repr

/-- The classes of a gate table entry (Table 60). -/
inductive GateClass where
  | none
  | close
  | open
  | eject
  deriving DecidableEq, Repr

/-- A gate table entry (Table 60). -/
structure GtEntry where
  dest : Addr
  code : Byte
  cls : GateClass
  press : PressNo
  deriving DecidableEq, Repr

/-- The device settings SYS (Table 87, Table 46, R145). Recorder address 0 disables drain channel 1. -/
structure Sys where
  ctrldiv : Nat
  silenceMs : Nat
  syncMs : Nat
  censusMs : Nat
  censusRequired : Bool
  weighZero : Nat
  weighGain : Nat
  weighM : Nat
  weighBand : Nat
  weighEmpty : Nat
  recorder : Addr
  paceUnit : Nat
  paceFactor : Nat
  lowMark : Nat
  noticeDest : Addr
  deriving DecidableEq, Repr

/-- The access levels of a requester (R151). -/
inductive Level where
  | read
  | write
  deriving DecidableEq, Repr

/-- A non-empty entry of the requester table (R151). -/
structure AccEntry where
  addr : Addr
  level : Level
  deriving DecidableEq, Repr

/-- The tables loaded by management, other than the ACC. -/
structure Tables where
  cht : Vector ChtEntry 64
  lin : Vector (List Breakpoint) 2
  crt : Vector (List Nat) 4
  zt : Vector ZtEntry 16
  rt : Vector Recipe 8
  pt : Vector PtEntry 4
  gt : Vector GtEntry 16
  sys : Sys
  deriving DecidableEq, Repr

/-- A checked table write: its table, entry and whole content (R157, R158). -/
inductive Write where
  | cht (i : Fin 64) (e : ChtEntry)
  | lin (i : Fin 2) (c : List Breakpoint)
  | crt (i : Fin 4) (r : List Nat)
  | zt (i : ZoneNo) (e : ZtEntry)
  | rt (i : RecipeNo) (e : Recipe)
  | pt (i : PressNo) (e : PtEntry)
  | gt (i : Fin 16) (e : GtEntry)
  | sys (e : Sys)
  | acc (i : Fin 4) (e : Option AccEntry)
  deriving DecidableEq, Repr

/-! ## Classifier and zones (02, 03, 04) -/

/-- A role target (R35). While FRESH its age timer runs for `maxAge` milliseconds from `time`. -/
inductive Target where
  | unbound
  | unrefreshed
  | fresh (value : Nat) (time : Time) (maxAge : Nat)
  | stale (value : Nat) (time : Time)
  deriving DecidableEq, Repr

/-- The range flag of a conversion (Table 26). -/
inductive RangeFlag where
  | none
  | under
  | over
  deriving DecidableEq, Repr

/-- The zone states (Table 37). -/
inductive ZoneState where
  | unassigned
  | idle
  | regulating
  | holding
  | fallback
  deriving DecidableEq, Repr

/-- A zone record: the arithmetic fields of Table 26, the regulation fields of Table 36 and the zone's
entry of the duty preset buffer (R68). -/
structure ZoneRecord where
  temp : Option Int
  range : RangeFlag
  cycMin : Option Int
  cycMax : Option Int
  underSeen : Bool
  overSeen : Bool
  cure : Nat
  cureHot : Bool
  state : ZoneState
  integ : Nat
  lastDuty : Nat
  staleCount : Nat
  sensorFault : Bool
  staleSeen : Bool
  syncLost : Bool
  preset : Nat
  deriving DecidableEq, Repr

/-! ## Weigh station and charge queue (05) -/

/-- The verdicts of a stable window (R79). -/
inductive Verdict where
  | within
  | under
  | over
  deriving DecidableEq, Repr

/-- The weigh station states (Table 48). STABLE carries verdict, stable weight and deviation. -/
inductive WeighState where
  | off
  | noSignal
  | empty
  | loading
  | stable (v : Verdict) (weight : Nat) (dev : Int)
  deriving DecidableEq, Repr

/-- An item of the stability window (R75). -/
structure WeighItem where
  raw : Nat
  weight : Nat
  deriving DecidableEq, Repr

/-- The weigh station (R76 to R83). -/
structure Weigh where
  state : WeighState
  window : List WeighItem
  recipe : Option RecipeNo
  last : Option Nat
  deriving DecidableEq, Repr

/-- A charge entry (Table 52). Its expiry timer runs from `accepted` to `expiry`. -/
structure ChargeEntry where
  number : ChargeNo
  recipe : RecipeNo
  weight : Nat
  dev : Int
  accepted : Time
  expiry : Time
  slot : SlotNo
  deriving DecidableEq, Repr

/-! ## Presses (06, 07) -/

/-- The press states (Table 63). -/
inductive PressState where
  | idle
  | ready
  | closing
  | curing
  | cured
  | opening
  | opened
  | ejecting
  | stuck
  | unloading
  deriving DecidableEq, Repr

/-- The causes of STUCK (Table 72). -/
inductive StuckCause where
  | force
  | guard
  | line
  | timeout
  deriving DecidableEq, Repr

/-- A press's halt item (R125). -/
inductive Halt where
  | none
  | waiting (f : Frame)
  | ready (f : Frame)
  deriving DecidableEq, Repr

/-- The cycle record under construction: what CLOSE and the later events of Table 65 fill. Press and recipe
are the press's own; the peak eject force is the ejection monitor's (R121). -/
structure CycleRecord where
  zoneCount : Nat
  chargeNo : ChargeNo
  weight : Nat
  dev : Int
  age : Nat
  cureTime : Option Nat
  serial : Option Number
  retries : Nat
  guardOpened : Bool
  closeTimeout : Bool
  openTimeout : Bool
  lineLoss : Bool
  deriving DecidableEq, Repr

/-- A press sequencer with its hold slot (R101, R109) and its ejection monitor (Table 71). -/
structure Press where
  state : PressState
  recipe : Option RecipeNo
  slot : Option SlotNo
  cycle : Option CycleRecord
  closed : Option Time
  dwellDone : Bool
  override : Bool
  hold : Option Frame
  closeT : Option Timer
  dwellT : Option Timer
  holdT : Option Timer
  openT : Option Timer
  ejectT : Option Timer
  stroke : Nat
  ejectStart : Option Time
  debounce : Nat
  peak : Nat
  peakSeg : Option Nat
  peakStroke : Option Nat
  stuckCause : Option StuckCause
  halt : Halt
  deriving DecidableEq, Repr

/-- A guard level; a high pin is OPEN (R118). -/
inductive GuardLevel where
  | closed
  | open
  deriving DecidableEq, Repr

/-- One input of the guard filter: accepted level, run count, and whether the third differing sample has
come whose acceptance is the next GUARD_LEVEL_ACCEPTED of this input (R118, R119; log 9). -/
structure GuardInput where
  accepted : GuardLevel
  run : Nat
  due : Bool
  deriving DecidableEq, Repr

/-! ## History (08) -/

/-- The record kinds (R132). -/
inductive RecordKind where
  | part
  | charge
  deriving DecidableEq, Repr

/-- The dispositions (Table 78). -/
inductive Disposition where
  | good
  | override
  | scrap
  | aborted
  | expired
  | discarded
  | rejectUnder
  | rejectOver
  | noQueue
  deriving DecidableEq, Repr

/-- A per-zone part of a PART record (R132, Table 112). -/
structure ZonePart where
  zone : ZoneNo
  staleSeen : Bool
  sensorFault : Bool
  underSeen : Bool
  overSeen : Bool
  min : Option Int
  max : Option Int
  deriving DecidableEq, Repr

/-- The record flags other than serial present, which `serial` tells (R132). -/
structure RecordFlags where
  staleZone : Bool
  syncLost : Bool
  cureHot : Bool
  guardOpened : Bool
  closeTimeout : Bool
  openTimeout : Bool
  lineLoss : Bool
  deriving DecidableEq, Repr

/-- A history record (Table 77). -/
structure Record where
  number : Number
  kind : RecordKind
  press : Option PressNo
  recipe : RecipeNo
  zoneCount : Nat
  serial : Option Number
  chargeNo : ChargeNo
  weight : Nat
  dev : Int
  age : Option Nat
  cureTime : Option Nat
  permille : Nat
  peak : Nat
  retries : Nat
  disposition : Disposition
  flags : RecordFlags
  zones : List ZonePart
  deriving DecidableEq, Repr

/-- The holder of a RESERVED slot (R135). -/
inductive Holder where
  | charge (number : ChargeNo)
  | press (p : PressNo)
  | weigh
  deriving DecidableEq, Repr

/-- The delivery state of a STORED slot (R134). -/
structure Delivery where
  delivered0 : Bool
  owed1 : Bool
  delivered1 : Bool
  released : Bool
  deriving DecidableEq, Repr

/-- A slot of the history store (R134). -/
inductive Slot where
  | free
  | reserved (h : Holder)
  | stored (r : Record) (d : Delivery)
  deriving DecidableEq, Repr

/-- The history store and its three counters: the next record number, the last charge number assigned and
the next panel serial (R136, R85, R129). -/
structure Store where
  slots : Vector Slot 64
  recordNo : Number
  chargeNo : ChargeNo
  serial : Number
  deriving DecidableEq, Repr

/-- The modes of a channel 0 run (R140). -/
inductive DrainMode where
  | single
  | step
  | block
  deriving DecidableEq, Repr

/-- Drain channel 0 (Table 79); its terminal flag is the notice unit's latch (R171). -/
structure Drain0 where
  running : Bool
  mode : Option DrainMode
  dest : Option Addr
  remaining : Nat
  delivered : Nat
  deriving DecidableEq, Repr

/-! ## Management agent (09) -/

/-- What an open long-read context reads (R154). -/
inductive ReadWhat where
  | table (id first count : Nat)
  | record (n : Number)
  deriving DecidableEq, Repr

/-- An open long-read context (R154). `wait` is how many writes from the head of the posted-write queue are
still to be applied before it is ready. -/
structure Context where
  tag : Byte
  op : Byte
  what : ReadWhat
  part : Nat
  wait : Nat
  deriving DecidableEq, Repr

/-- A mark: a writable table's identifier and an entry of it (R159). -/
structure Mark where
  table : Nat
  entry : Nat
  deriving DecidableEq, Repr

/-- The management agent (R165). -/
structure Agent where
  acc : Vector (Option AccEntry) 4
  contexts : Vector (Option Context) 4
  marks : Vector (Option Mark) 4
  responses : List Frame
  posted : List Write
  turn : Fin 4
  deriving DecidableEq, Repr

/-! ## Notice unit (10) -/

/-- The notice kinds in code order (Table 90). -/
inductive NoticeKind where
  | lineLossD
  | lineRestoredD
  | syncLoss
  | syncRestored
  | overrun
  | counterHalf
  | gateRefused
  | openHeld
  | openReleased
  | openHoldExpired
  | openTimeout
  | pressState
  | ejectStuck
  | zoneStale
  | zoneFallback
  | zoneRecovered
  | chargeAccepted
  | chargeRejected
  | chargeExpired
  | chargeUntraced
  | recordStored
  | storeLow
  | drainDone
  | censusDone
  deriving DecidableEq, Repr

/-- An item of the notice queue (R167). -/
structure Notice where
  kind : NoticeKind
  subject : Byte
  detail : BitVec 16
  count : Nat
  first : Time
  deriving DecidableEq, Repr

/-- The status latches (Table 93); the D-loss causes are two bits. -/
structure Latches where
  silence : Bool
  errorBurst : Bool
  syncLoss : Bool
  overrun : Bool
  overflow : Bool
  terminal : Bool
  caughtUp : Bool
  deriving DecidableEq, Repr

/-- The notice unit: queue, enable mask (bit n enables kind code n), latches, the twelve counters of
Table 91 and their half-mark flags (R166 to R173). -/
structure NoticeUnit where
  queue : List Notice
  mask : BitVec 24
  latches : Latches
  counters : Vector Nat 12
  half : Vector Bool 12
  deriving DecidableEq, Repr

/-! ## The state -/

/-- The whole state of the part, and the queue of the commands that are waiting. -/
structure State where
  /-- The millisecond count (R1). -/
  now : Time
  /-- The level of RSTn (R1). -/
  rstn : Bool
  /-- The own address, 48 plus the straps read at power-on (R5). -/
  own : Addr
  /-- The levels of GD0 to GD3 at the last sample (R118). -/
  gdLevels : BitVec 4
  /-- The device mode (R161). -/
  mode : Mode
  /-- Checkers, buffers and out-halves (R2, R8 to R15). -/
  line : Line
  /-- The sync watch (R17). -/
  sync : SyncWatch
  /-- The loss watch on D-in (R18 to R20). -/
  loss : LossWatch
  /-- The node census (R21 to R24). -/
  census : Census
  /-- The tables (R25, R39, R47, R55, R94, R96, R98, R160). -/
  tables : Tables
  /-- The 29 role targets in the order of Table 24 (R35). -/
  targets : Vector Target 29
  /-- The zone records and the duty preset buffer (R58, R68). -/
  zones : Vector ZoneRecord 16
  /-- Counted SYNC departures of the control period in progress (R59). -/
  periodCount : Nat
  /-- A control period of a counted departure is due and not yet taken (R60; log 8). -/
  periodDue : Bool
  /-- The guard filter (R118). -/
  guard : Vector GuardInput 4
  /-- The weigh station (R76). -/
  weigh : Weigh
  /-- The charge queue, oldest first (R84). -/
  charges : List ChargeEntry
  /-- The press sequencers and ejection monitors (R101, Table 71). -/
  presses : Vector Press 4
  /-- The history store (R134). -/
  store : Store
  /-- Drain channel 0 (R140). -/
  drain0 : Drain0
  /-- Drain channel 1's pace timer (R145). -/
  pace : Option Timer
  /-- The management agent (R165). -/
  agent : Agent
  /-- The notice unit (R166 to R173). -/
  notices : NoticeUnit
  /-- How many free values have been drawn (log 3, log 4). -/
  freeCount : Nat
  /-- The commands that are waiting, the next one first. -/
  pending : List Instr
  deriving DecidableEq, Repr

/-- Why the machine could stop with a fault. The spec names no condition that stops the part (01 Table 17),
so there is none and no meaning faults. -/
inductive Fault where
  deriving DecidableEq, Repr

/-- Why a command could be refused. -/
inductive Refusal where
  /-- Raised by `exec` alone, for a command that has no meaning yet; safe, since no next state is claimed.
  Every command has its meaning, so nothing raises it. -/
  | notModelled (mnemonic : String)
  deriving DecidableEq, Repr

/-! ## Power-on values -/

/-- A checker in WAIT (R2). -/
def Checker.reset : Checker := { collecting := false, count := 0, kept := [] }

/-- The line at power-on: empty buffers, both out-halves IDLE, hold OFF (R8, R10, R13, R15). -/
def Line.reset : Line :=
  { uChk := .reset, dChk := .reset, up := [], down := [], release := [], burst := [], uOut := none,
    dOut := none, hold := .off }

/-- The census at power-on: IDLE, no result, latch clear (R24). -/
def Census.reset : Census :=
  { state := .idle, phase := .none, todo := [], expected := 0, missing := [], dirty := false,
    verdict := none, passLatch := false }

/-- The loss watch at power-on: D_LOST with {SILENCE}, empty window, no timer (R18, R20). -/
def LossWatch.reset : LossWatch :=
  { lost := true, silence := true, burst := false, window := [], goodRun := 0, timer := none }

/-- A channel table entry at power-on (R25). -/
def ChtEntry.reset : ChtEntry := { node := 0, channel := 0, role := .none, index := 0, ageUnits := 10 }

/-- A curve at power-on: thirteen zero breakpoints (R39). -/
def curveReset : List Breakpoint := List.replicate 13 { raw := 0, temp := 0 }

/-- A zone table entry at power-on (Table 35). -/
def ZtEntry.reset : ZtEntry :=
  { curve := 0, offset := 0, heater := 0, channel := 0, fallback := 0, grace := 0 }

/-- A recipe at power-on (Table 59). -/
def Recipe.reset : Recipe :=
  { setpoints := List.replicate 6 0, kp := 0, ki := 0, ceiling := 0, target := 0, tolLow := 0, tolHigh := 0,
    outTime := 1, cureTable := 0, threshold := 0, dwell := 0, openHold := 0, segMax := List.replicate 8 0,
    segLen := 100, peakLimit := 0, debounce := 1, retries := 0, overrideOk := false }

/-- A press table entry at power-on (Table 58). -/
def PtEntry.reset : PtEntry :=
  { zones := [], closedAt := 0, openAt := 0, outAt := 0, homeAt := 0, ejector := 0, haltCode := 0,
    marker := 0, guardUsed := false, closeMs := 10000, openMs := 10000, ejectMs := 10000 }

/-- A gate table entry at power-on (Table 60). -/
def GtEntry.reset : GtEntry := { dest := 0, code := 0, cls := .none, press := 0 }

/-- SYS at power-on (Table 87, Table 46, R145). -/
def Sys.reset : Sys :=
  { ctrldiv := 10, silenceMs := 20, syncMs := 100, censusMs := 5, censusRequired := true, weighZero := 0,
    weighGain := 4096, weighM := 8, weighBand := 5, weighEmpty := 50, recorder := 0, paceUnit := 1,
    paceFactor := 10, lowMark := 8, noticeDest := 0 }

/-- The tables at power-on. -/
def Tables.reset : Tables :=
  { cht := Vector.replicate 64 .reset, lin := Vector.replicate 2 curveReset,
    crt := Vector.replicate 4 (List.replicate 24 0), zt := Vector.replicate 16 .reset,
    rt := Vector.replicate 8 .reset, pt := Vector.replicate 4 .reset, gt := Vector.replicate 16 .reset,
    sys := .reset }

/-- A zone record at power-on (R54, R71). -/
def ZoneRecord.reset : ZoneRecord :=
  { temp := none, range := .none, cycMin := none, cycMax := none, underSeen := false, overSeen := false,
    cure := 0, cureHot := false, state := .unassigned, integ := 0, lastDuty := 0, staleCount := 0,
    sensorFault := false, staleSeen := false, syncLost := false, preset := 0 }

/-- A press at power-on (R101, R116, R130). -/
def Press.reset : Press :=
  { state := .idle, recipe := none, slot := none, cycle := none, closed := none, dwellDone := false,
    override := false, hold := none, closeT := none, dwellT := none, holdT := none, openT := none,
    ejectT := none, stroke := 0, ejectStart := none, debounce := 0, peak := 0, peakSeg := none,
    peakStroke := none, stuckCause := none, halt := .none }

/-- The store at power-on (R148). -/
def Store.reset : Store :=
  { slots := Vector.replicate 64 .free, recordNo := 1, chargeNo := 0, serial := 1 }

/-- Drain channel 0 at power-on (R140). -/
def Drain0.reset : Drain0 :=
  { running := false, mode := none, dest := none, remaining := 0, delivered := 0 }

/-- The requester table at power-on: address 0 with level WRITE (R151). -/
def accReset : Vector (Option AccEntry) 4 :=
  (Vector.replicate 4 none).set 0 (some { addr := 0, level := .write })

/-- The management agent at power-on (R165). -/
def Agent.reset : Agent :=
  { acc := accReset, contexts := Vector.replicate 4 none, marks := Vector.replicate 4 none,
    responses := [], posted := [], turn := 0 }

/-- All latches clear (R171). -/
def Latches.clear : Latches :=
  { silence := false, errorBurst := false, syncLoss := false, overrun := false, overflow := false,
    terminal := false, caughtUp := false }

/-- The notice unit at power-on: every kind enabled, all else empty (R167, R169, R171, R172). -/
def NoticeUnit.reset : NoticeUnit :=
  { queue := [], mask := BitVec.allOnes 24, latches := .clear, counters := Vector.replicate 12 0,
    half := Vector.replicate 12 false }

/-- The machine right after power-on (R1) with the straps at 0 (DESIGN CHOICE, unsafe: log 1). -/
def State.reset : State :=
  { now := 0, rstn := true, own := 48, gdLevels := 0, mode := .config, line := .reset,
    sync := { lost := true, timer := none }, loss := .reset, census := .reset, tables := .reset,
    targets := Vector.replicate 29 .unbound, zones := Vector.replicate 16 .reset, periodCount := 0,
    periodDue := false, guard := Vector.replicate 4 { accepted := .open, run := 0, due := false },
    weigh := { state := .off, window := [], recipe := none, last := none }, charges := [],
    presses := Vector.replicate 4 .reset, store := .reset, drain0 := .reset, pace := none,
    agent := .reset, notices := .reset, freeCount := 0, pending := [] }

end Sys2Proof.Machine
end

