-- ==== Sys2Proof/Machine/Operands.lean ====
section
/-!
DEFINITION. How values stand in bytes: byte order, frames and their CRC (R4, R5), the codes of named lists
(R174), and the parsing of table entries (R177, Table 109). Every field is read by offset and size.
-/

namespace Sys2Proof.Machine

open Sys2Proof

/-! ## Bytes, most significant first (12) -/

/-- `size` bytes of `n`, most significant first. -/
def toBytes : Nat → Nat → List Byte
  | 0, _ => []
  | size + 1, n => BitVec.ofNat 8 (n / 256 ^ size) :: toBytes size n

/-- The number a list of bytes carries, most significant first. -/
def ofBytes (bs : List Byte) : Nat := bs.foldl (fun n b => n * 256 + b.toNat) 0

/-- Two bytes of a signed value, two's complement (R177). -/
def toBytesInt (i : Int) : List Byte := toBytes 2 (BitVec.ofInt 16 i).toNat

/-- The field of `size` bytes at an offset. -/
def field (bs : List Byte) (off size : Nat) : Nat := ofBytes ((bs.drop off).take size)

/-- The signed two-byte field at an offset. -/
def fieldInt (bs : List Byte) (off : Nat) : Int := (BitVec.ofNat 16 (field bs off 2)).toInt

/-- An address is taken from bits 5 to 0 of its byte (R176; for argument bytes, log 12). -/
def fieldAddr (bs : List Byte) (off : Nat) : Addr := BitVec.ofNat 6 (field bs off 1)

/-- A flag is bit 0 of its byte (R176; for table entries, log 13). -/
def fieldFlag (bs : List Byte) (off : Nat) : Bool := field bs off 1 % 2 == 1

/-- The byte of an address: bits 7 and 6 are sent as 0 (R178). -/
def addrByte (a : Addr) : Byte := a.setWidth 8

/-- One byte of a small number. -/
def byteOf (n : Nat) : Byte := BitVec.ofNat 8 n

/-- One byte of a flag sent alone. -/
def flagByte (b : Bool) : Byte := if b then 1 else 0

/-- An absent unsigned one-byte field carries all ones (R178). -/
def optByte : Option Nat → Byte
  | some n => byteOf n
  | none => 255

/-- An absent unsigned two-byte field carries all ones (R178). -/
def optBytes2 : Option Nat → List Byte
  | some n => toBytes 2 n
  | none => [255, 255]

/-- An absent signed field carries -32,768 (R178). -/
def optBytesInt : Option Int → List Byte
  | some i => toBytesInt i
  | none => toBytesInt (-32768)

/-- An absent millisecond stamp carries 0 (R178). -/
def optStamp : Option Time → List Byte
  | some t => toBytes 4 t.toNat
  | none => toBytes 4 0

/-! ## The frame CRC (R4) -/

/-- One bit into the CRC register: combine with the top bit, shift, combine with the polynomial. -/
def crcBit (r : BitVec 16) (b : Bool) : BitVec 16 :=
  if (r.msb ^^ b) then (r <<< 1) ^^^ 0x1021#16 else r <<< 1

/-- One byte into the CRC register, most significant bit first. -/
def crcByte (r : BitVec 16) (b : Byte) : BitVec 16 :=
  [7, 6, 5, 4, 3, 2, 1, 0].foldl (fun r i => crcBit r (b.getLsbD i)) r

/-- The CRC over header and payload in line order, from a register of all ones. -/
def crc16 (bs : List Byte) : BitVec 16 := bs.foldl crcByte 0xFFFF#16

/-! ## Frames (Table 103) -/

/-- The header and payload bytes of a frame. -/
def Frame.body (f : Frame) : List Byte :=
  [f.dst, f.src, f.kind, byteOf f.payload.length] ++ f.payload

/-- The data bytes of a frame as sent, CRC high byte first (R4, R5). -/
def Frame.bytes (f : Frame) : List Byte := f.body ++ toBytes 2 f.crc.toNat

/-- The destination address of a frame (R176). -/
def Frame.dstAddr (f : Frame) : Addr := f.dst.setWidth 6

/-- The source address of a frame (R176). -/
def Frame.srcAddr (f : Frame) : Addr := f.src.setWidth 6

/-- The frame kinds' codes (Table 8). -/
def kindSync : Byte := 1
/-- SAMP (Table 8). -/
def kindSamp : Byte := 2
/-- CMD (Table 8). -/
def kindCmd : Byte := 3
/-- DUTY (Table 8). -/
def kindDuty : Byte := 4
/-- MREQ (Table 8). -/
def kindMreq : Byte := 5
/-- MRSP (Table 8). -/
def kindMrsp : Byte := 6
/-- NOTE (Table 8). -/
def kindNote : Byte := 7
/-- HIST (Table 8). -/
def kindHist : Byte := 8
/-- LABL (Table 8). -/
def kindLabl : Byte := 9
/-- CENS (Table 8). -/
def kindCens : Byte := 10

/-- A frame the PL16 originates: own source address, CRC by R4 (R5). -/
def buildFrame (own dst : Addr) (kind : Byte) (payload : List Byte) : Frame :=
  { dst := addrByte dst, src := addrByte own, kind := kind, payload := payload,
    crc := crc16 ([addrByte dst, addrByte own, kind, byteOf payload.length] ++ payload) }

/-- The outcome of the two checks on a completed frame (R3, Table 7). -/
inductive CheckResult where
  | good (f : Frame)
  | framing
  | crc
  deriving DecidableEq, Repr

/-- The framing check on the byte count, the kept bytes and whether an end delimiter came, then the CRC
check (R3). -/
def checkFrame (count : Nat) (kept : List Byte) (ended : Bool) : CheckResult :=
  if count < 6 || 64 < field kept 3 1 || count != field kept 3 1 + 6 || !ended then .framing
  else
    if (crc16 (kept.take (count - 2))).toNat == field kept (count - 2) 2 then
      .good { dst := byteOf (field kept 0 1), src := byteOf (field kept 1 1), kind := byteOf (field kept 2 1),
              payload := (kept.drop 4).take (count - 6), crc := BitVec.ofNat 16 (field kept (count - 2) 2) }
    else .crc

/-- The symbols of a whole frame of these data bytes. -/
def frameSymbols (bs : List Byte) : List Symbol := .startDelim :: bs.map .data ++ [.endDelim]

/-! ## Codes of named lists (R174) -/

/-- CONFIG = 0, RUN = 1 (R161). -/
def Mode.code : Mode → Nat
  | .config => 0
  | .run => 1

/-- Table 63. -/
def PressState.code : PressState → Nat
  | .idle => 0
  | .ready => 1
  | .closing => 2
  | .curing => 3
  | .cured => 4
  | .opening => 5
  | .opened => 6
  | .ejecting => 7
  | .stuck => 8
  | .unloading => 9

/-- Table 37. -/
def ZoneState.code : ZoneState → Nat
  | .unassigned => 0
  | .idle => 1
  | .regulating => 2
  | .holding => 3
  | .fallback => 4

/-- Table 26. -/
def RangeFlag.code : RangeFlag → Nat
  | .none => 0
  | .under => 1
  | .over => 2

/-- Table 19. -/
def Role.code : Role → Nat
  | .none => 0
  | .zoneTc => 1
  | .weigh => 2
  | .platen => 3
  | .ejectForce => 4
  | .ejectPos => 5

/-- The role of a code, if it is one of the six (R26). -/
def Role.ofCode : Nat → Option Role
  | 0 => some .none
  | 1 => some .zoneTc
  | 2 => some .weigh
  | 3 => some .platen
  | 4 => some .ejectForce
  | 5 => some .ejectPos
  | _ => Option.none

/-- Table 60. -/
def GateClass.code : GateClass → Nat
  | .none => 0
  | .close => 1
  | .open => 2
  | .eject => 3

/-- The class of a code, if it is one of the four (R98). -/
def GateClass.ofCode : Nat → Option GateClass
  | 0 => some .none
  | 1 => some .close
  | 2 => some .open
  | 3 => some .eject
  | _ => Option.none

/-- IN = 0, UNDER = 1, OVER = 2 (R174). -/
def Verdict.code : Verdict → Nat
  | .within => 0
  | .under => 1
  | .over => 2

/-- Table 48. -/
def WeighState.code : WeighState → Nat
  | .off => 0
  | .noSignal => 1
  | .empty => 2
  | .loading => 3
  | .stable _ _ _ => 4

/-- Table 72. -/
def StuckCause.code : StuckCause → Nat
  | .force => 0
  | .guard => 1
  | .line => 2
  | .timeout => 3

/-- Table 78. -/
def Disposition.code : Disposition → Nat
  | .good => 0
  | .override => 1
  | .scrap => 2
  | .aborted => 3
  | .expired => 4
  | .discarded => 5
  | .rejectUnder => 6
  | .rejectOver => 7
  | .noQueue => 8

/-- PART = 0, CHARGE = 1 (R174). -/
def RecordKind.code : RecordKind → Nat
  | .part => 0
  | .charge => 1

/-- Table 16. -/
def CensusState.code : CensusState → Nat
  | .idle => 0
  | .running => 1
  | .done => 2

/-- PASS = 0, FAIL = 1 (R174). -/
def CensusVerdict.code : CensusVerdict → Nat
  | .pass => 0
  | .fail => 1

/-- SINGLE = 0, STEP = 1, BLOCK = 2 (R174). -/
def DrainMode.code : DrainMode → Nat
  | .single => 0
  | .step => 1
  | .block => 2

/-- The run mode of a code (R140). -/
def DrainMode.ofCode : Nat → Option DrainMode
  | 0 => some .single
  | 1 => some .step
  | 2 => some .block
  | _ => none

/-- READ = 0, WRITE = 1 (Table 108). -/
def Level.code : Level → Nat
  | .read => 0
  | .write => 1

/-- The level of a code (R151). -/
def Level.ofCode : Nat → Option Level
  | 0 => some .read
  | 1 => some .write
  | _ => none

/-- NONE, WAITING, READY (Table 71). -/
def Halt.code : Halt → Nat
  | .none => 0
  | .waiting _ => 1
  | .ready _ => 2

/-- UNBOUND, UNREFRESHED, FRESH, STALE (R37). -/
def Target.code : Target → Nat
  | .unbound => 0
  | .unrefreshed => 1
  | .fresh _ _ _ => 2
  | .stale _ _ => 3

/-- CLOSED = 0, OPEN = 1: the flag "guard accepted open" (R177). -/
def GuardLevel.isOpen : GuardLevel → Bool
  | .closed => false
  | .open => true

/-- Table 90. -/
def NoticeKind.code : NoticeKind → Nat
  | .lineLossD => 0
  | .lineRestoredD => 1
  | .syncLoss => 2
  | .syncRestored => 3
  | .overrun => 4
  | .counterHalf => 5
  | .gateRefused => 6
  | .openHeld => 7
  | .openReleased => 8
  | .openHoldExpired => 9
  | .openTimeout => 10
  | .pressState => 11
  | .ejectStuck => 12
  | .zoneStale => 13
  | .zoneFallback => 14
  | .zoneRecovered => 15
  | .chargeAccepted => 16
  | .chargeRejected => 17
  | .chargeExpired => 18
  | .chargeUntraced => 19
  | .recordStored => 20
  | .storeLow => 21
  | .drainDone => 22
  | .censusDone => 23

/-- The causes of a gate refusal (Table 62). -/
inductive RefusalCause where
  | config
  | notReady
  | state
  | broadcast
  | guard
  | syncLost
  | noCharge
  | retries
  | pending
  deriving DecidableEq, Repr

/-- Table 62. -/
def RefusalCause.code : RefusalCause → Nat
  | .config => 0
  | .notReady => 1
  | .state => 2
  | .broadcast => 3
  | .guard => 4
  | .syncLost => 5
  | .noCharge => 6
  | .retries => 7
  | .pending => 8

/-- The results of a response (R152, Table 106). -/
inductive MgmtResult where
  | ok
  | posted
  | busy
  | badArg
  | badState
  | badTable
  | qFull
  | denied
  | lost
  | gone
  deriving DecidableEq, Repr

/-- Table 106. -/
def MgmtResult.code : MgmtResult → Nat
  | .ok => 0
  | .posted => 1
  | .busy => 2
  | .badArg => 3
  | .badState => 4
  | .badTable => 5
  | .qFull => 6
  | .denied => 7
  | .lost => 8
  | .gone => 9

/-- The end causes of a channel 0 run (R175). -/
inductive EndCause where
  | count
  | dry
  | stopped
  deriving DecidableEq, Repr

/-- COUNT = 0, DRY = 1, STOPPED = 2 (R175). -/
def EndCause.code : EndCause → Nat
  | .count => 0
  | .dry => 1
  | .stopped => 2

/-! ## Management requests (Table 105, Table 107) -/

/-- A management request with its arguments (Table 107). -/
inductive Req where
  | ident
  | status
  | counters
  | noticeEnable (mask : BitVec 24)
  | tableRead (table first count : Nat)
  | tableReadMark (table entry : Nat)
  | tableWrite (table entry : Nat) (content : List Byte)
  | tableWriteIfMarked (table entry : Nat) (content : List Byte)
  | modeRun
  | modeStop (force : Bool)
  | restart
  | censusStart
  | pressAssign (press recipe : Nat)
  | pressAbort (press : Nat)
  | pressScrap (press : Nat)
  | weighRecipe (recipe : Nat)
  | weighTare
  | chargeDiscard (number : ChargeNo)
  | drainStart (mode count : Nat)
  | drainStop
  | release (number : Number)
  | recordRead (number : Number)
  | serialBase (value : Number)
  deriving DecidableEq, Repr

/-- The operation code of a request (Table 107). -/
def Req.code : Req → Nat
  | .ident => 1
  | .status => 2
  | .counters => 3
  | .noticeEnable _ => 4
  | .tableRead _ _ _ => 5
  | .tableReadMark _ _ => 6
  | .tableWrite _ _ _ => 7
  | .tableWriteIfMarked _ _ _ => 8
  | .modeRun => 9
  | .modeStop _ => 10
  | .restart => 11
  | .censusStart => 12
  | .pressAssign _ _ => 13
  | .pressAbort _ => 14
  | .pressScrap _ => 15
  | .weighRecipe _ => 16
  | .weighTare => 17
  | .chargeDiscard _ => 18
  | .drainStart _ _ => 19
  | .drainStop => 20
  | .release _ => 21
  | .recordRead _ => 22
  | .serialBase _ => 23

/-- Whether a code is an operation of Table 85. -/
def knownOperation (code : Nat) : Bool := 1 ≤ code && code ≤ 23

/-- Whether an operation of this code is a writing operation (Table 85). -/
def writingOperation (code : Nat) : Bool :=
  [4, 7, 8, 9, 10, 11, 12, 13, 14, 15, 16, 17, 18, 21, 23].contains code

/-- The request an operation code and its argument bytes carry; none where their number is not the one
Table 107 gives. For the two table writes the content's length is checked by `Req.argsOk`. -/
def parseReq (code : Nat) (args : List Byte) : Option Req :=
  match code, args with
  | 1, [] => some .ident
  | 2, [] => some .status
  | 3, [] => some .counters
  | 4, [a, b, c] => some (.noticeEnable (BitVec.ofNat 24 (ofBytes [a, b, c])))
  | 5, [t, f, c] => some (.tableRead t.toNat f.toNat c.toNat)
  | 6, [t, e] => some (.tableReadMark t.toNat e.toNat)
  | 7, t :: e :: content => some (.tableWrite t.toNat e.toNat content)
  | 8, t :: e :: content => some (.tableWriteIfMarked t.toNat e.toNat content)
  | 9, [] => some .modeRun
  | 10, [f] => some (.modeStop (f.toNat % 2 == 1))
  | 11, [] => some .restart
  | 12, [] => some .censusStart
  | 13, [p, r] => some (.pressAssign p.toNat r.toNat)
  | 14, [p] => some (.pressAbort p.toNat)
  | 15, [p] => some (.pressScrap p.toNat)
  | 16, [r] => some (.weighRecipe r.toNat)
  | 17, [] => some .weighTare
  | 18, [a, b] => some (.chargeDiscard (BitVec.ofNat 16 (ofBytes [a, b])))
  | 19, [m, c] => some (.drainStart m.toNat c.toNat)
  | 20, [] => some .drainStop
  | 21, [a, b, c, d] => some (.release (BitVec.ofNat 32 (ofBytes [a, b, c, d])))
  | 22, [a, b, c, d] => some (.recordRead (BitVec.ofNat 32 (ofBytes [a, b, c, d])))
  | 23, [a, b, c, d] => some (.serialBase (BitVec.ofNat 32 (ofBytes [a, b, c, d])))
  | _, _ => none

/-! ## Tables by identifier (Table 109) -/

/-- The number of entries of a table, 0 for an identifier that names none. -/
def tableEntries : Nat → Nat
  | 0 => 64
  | 1 => 2
  | 2 => 4
  | 3 => 16
  | 4 => 8
  | 5 => 4
  | 6 => 16
  | 7 => 1
  | 8 => 4
  | 9 => 1
  | 10 => 29
  | 11 => 16
  | 12 => 1
  | 13 => 8
  | 14 => 4
  | 15 => 64
  | _ => 0

/-- The size in bytes of an entry as written; none for a table that cannot be written. -/
def writeSize : Nat → Option Nat
  | 0 => some 5
  | 1 => some 52
  | 2 => some 48
  | 3 => some 8
  | 4 => some 55
  | 5 => some 25
  | 6 => some 4
  | 7 => some 20
  | 8 => some 2
  | _ => none

/-- The size in bytes of an entry as read; the census entry by its longest form (Table 109). -/
def readSize : Nat → Nat
  | 0 => 5
  | 1 => 53
  | 2 => 48
  | 3 => 8
  | 4 => 55
  | 5 => 25
  | 6 => 4
  | 7 => 20
  | 8 => 2
  | 9 => 51
  | 10 => 12
  | 11 => 23
  | 12 => 12
  | 13 => 20
  | 14 => 57
  | 15 => 14
  | _ => 0

/-- Whether the identifier names a writable table. -/
def writableTable (id : Nat) : Bool := id ≤ 8

/-- How many whole entries one response frame carries after its header of 5 (R155, Table 105). -/
def entriesPerPart (id : Nat) : Nat := 59 / readSize id

/-- Whether the argument bytes of a table write have the length its table needs (R150, R176). -/
def Req.argsOk : Req → Bool
  | .tableWrite t _ c => writeSize t == some c.length
  | .tableWriteIfMarked t _ c => writeSize t == some c.length
  | _ => true

/-! ## Entries as written (R177). Out-of-range values stay as carried: the table's rule judges them. -/

/-- Thirteen pairs of raw count and temperature from an offset (R177). -/
def parseCurve (bs : List Byte) : List Breakpoint :=
  [0, 1, 2, 3, 4, 5, 6, 7, 8, 9, 10, 11, 12].map
    (fun k => { raw := field bs (4 * k) 2, temp := fieldInt bs (4 * k + 2) })

/-- `n` two-byte values from an offset. -/
def parseWords (bs : List Byte) (off : Nat) : Nat → List Nat
  | 0 => []
  | n + 1 => field bs off 2 :: parseWords bs (off + 2) n

/-- A recipe from the 55 bytes of Table 59's fields; setpoints are unsigned (log 14). -/
def parseRecipe (bs : List Byte) : Recipe :=
  { setpoints := parseWords bs 0 6, kp := field bs 12 1, ki := field bs 13 1, ceiling := field bs 14 2,
    target := field bs 16 2, tolLow := field bs 18 2, tolHigh := field bs 20 2, outTime := field bs 22 2,
    cureTable := field bs 24 1, threshold := field bs 25 3, dwell := field bs 28 2,
    openHold := field bs 30 2, segMax := parseWords bs 32 8, segLen := field bs 48 2,
    peakLimit := field bs 50 2, debounce := field bs 52 1, retries := field bs 53 1,
    overrideOk := fieldFlag bs 54 }

/-- SYS from the 20 bytes of Table 87's fields. -/
def parseSys (bs : List Byte) : Sys :=
  { ctrldiv := field bs 0 1, silenceMs := field bs 1 1, syncMs := field bs 2 2, censusMs := field bs 4 1,
    censusRequired := field bs 5 1 != 0, weighZero := field bs 6 2, weighGain := field bs 8 2,
    weighM := field bs 10 1, weighBand := field bs 11 2, weighEmpty := field bs 13 2,
    recorder := fieldAddr bs 15, paceUnit := field bs 16 1, paceFactor := field bs 17 1,
    lowMark := field bs 18 1, noticeDest := fieldAddr bs 19 }

/-! ## Entries as read -/

/-- A channel table entry in 5 bytes. -/
def chtBytes (e : ChtEntry) : List Byte :=
  [addrByte e.node, byteOf e.channel, byteOf e.role.code, byteOf e.index, byteOf e.ageUnits]

/-- A curve's 13 pairs in 52 bytes. -/
def curveBytes (c : List Breakpoint) : List Byte := c.flatMap (fun b => toBytes 2 b.raw ++ toBytesInt b.temp)

/-- A list of two-byte values. -/
def wordsBytes (ws : List Nat) : List Byte := ws.flatMap (toBytes 2)

/-- A zone table entry in 8 bytes. -/
def ztBytes (e : ZtEntry) : List Byte :=
  [byteOf e.curve.val] ++ toBytesInt e.offset ++ [addrByte e.heater, byteOf e.channel] ++
    toBytes 2 e.fallback ++ [byteOf e.grace]

/-- A recipe in 55 bytes. -/
def recipeBytes (r : Recipe) : List Byte :=
  wordsBytes r.setpoints ++ [byteOf r.kp, byteOf r.ki] ++ toBytes 2 r.ceiling ++ toBytes 2 r.target ++
    toBytes 2 r.tolLow ++ toBytes 2 r.tolHigh ++ toBytes 2 r.outTime ++ [byteOf r.cureTable] ++
    toBytes 3 r.threshold ++ toBytes 2 r.dwell ++ toBytes 2 r.openHold ++ wordsBytes r.segMax ++
    toBytes 2 r.segLen ++ toBytes 2 r.peakLimit ++ [byteOf r.debounce, byteOf r.retries, flagByte r.overrideOk]

/-- The zone list of a PT entry: a count byte and six zone bytes, those beyond the count 0 (R177, R178). -/
def zoneListBytes (zs : List ZoneNo) : List Byte :=
  byteOf zs.length :: (zs.map (fun z => byteOf z.val) ++ List.replicate (6 - zs.length) 0)

/-- A press table entry in 25 bytes. -/
def ptBytes (e : PtEntry) : List Byte :=
  zoneListBytes e.zones ++ toBytes 2 e.closedAt ++ toBytes 2 e.openAt ++ toBytes 2 e.outAt ++
    toBytes 2 e.homeAt ++ [addrByte e.ejector, e.haltCode, addrByte e.marker, flagByte e.guardUsed] ++
    toBytes 2 e.closeMs ++ toBytes 2 e.openMs ++ toBytes 2 e.ejectMs

/-- A gate table entry in 4 bytes. -/
def gtBytes (e : GtEntry) : List Byte := [addrByte e.dest, e.code, byteOf e.cls.code, byteOf e.press.val]

/-- SYS in 20 bytes. -/
def sysBytes (y : Sys) : List Byte :=
  [byteOf y.ctrldiv, byteOf y.silenceMs] ++ toBytes 2 y.syncMs ++
    [byteOf y.censusMs, flagByte y.censusRequired] ++ toBytes 2 y.weighZero ++ toBytes 2 y.weighGain ++
    [byteOf y.weighM] ++ toBytes 2 y.weighBand ++ toBytes 2 y.weighEmpty ++
    [addrByte y.recorder, byteOf y.paceUnit, byteOf y.paceFactor, byteOf y.lowMark, addrByte y.noticeDest]

/-- A requester table entry in 2 bytes; an empty one is absent, all ones (R178). -/
def accBytes : Option AccEntry → List Byte
  | some a => [addrByte a.addr, byteOf a.level.code]
  | none => [255, 255]

end Sys2Proof.Machine
end

