-- ==== Sys2Proof/Machine/Flags.lean ====
section
/-!
DEFINITION. The flags the spec packs into bytes (R174: the first flag listed takes bit 0) and the flags a
record takes from its zones (R115).
-/

namespace Sys2Proof.Machine

open Sys2Proof

/-- Flags packed into a number, the first in bit 0. -/
def packNat : List Bool → Nat
  | [] => 0
  | b :: bs => b.toNat + 2 * packNat bs

/-- Flags packed into one byte, the first in bit 0 (R174). -/
def packFlags (bs : List Bool) : Byte := byteOf (packNat bs)

/-- The flags byte of a history record (Table 111, offset 27). -/
def recordFlagsByte (serialPresent : Bool) (f : RecordFlags) : Byte :=
  packFlags [serialPresent, f.staleZone, f.syncLost, f.cureHot, f.guardOpened, f.closeTimeout,
    f.openTimeout, f.lineLoss]

/-- The zone flags byte of a per-zone part (Table 112, offset 1). -/
def zonePartFlags (z : ZonePart) : Byte :=
  packFlags [z.staleSeen, z.sensorFault, z.underSeen, z.overSeen]

/-- The delivery state of RECORD READ and of the store table (Table 108). -/
def deliveryFlags (d : Delivery) : Byte :=
  packFlags [d.delivered0, d.owed1, d.delivered1, d.released]

/-- The latches byte of STATUS (Table 110, offset 49). -/
def latchesByte (l : Latches) : Byte :=
  packFlags [l.silence, l.errorBurst, l.syncLoss, l.overrun, l.overflow, l.terminal, l.caughtUp]

/-- The cause set byte of STATUS (Table 110, offset 44). -/
def causesByte (w : LossWatch) : Byte := packFlags [w.silence, w.burst]

/-- The MRSP flags LAST and ERR; ERR is set on every result but OK and POSTED (R152, Table 105). -/
def mrspFlags (last : Bool) (r : MgmtResult) : Byte :=
  packFlags [last, r != .ok && r != .posted]

/-- The three cycle flags of a zone record (R67, R72). -/
def zoneCycleFlags (z : ZoneRecord) : Byte := packFlags [z.sensorFault, z.staleSeen, z.syncLost]

/-- The under-seen and over-seen flags (R53). -/
def zoneRangeFlags (z : ZoneRecord) : Byte := packFlags [z.underSeen, z.overSeen]

/-- The flags of a record: those of the cycle record, and those set if any zone of the list has the
corresponding flag (R115 step 2). -/
def finalFlags (c : CycleRecord) (zs : List ZoneRecord) : RecordFlags :=
  { staleZone := zs.any (·.staleSeen), syncLost := zs.any (·.syncLost), cureHot := zs.any (·.cureHot),
    guardOpened := c.guardOpened, closeTimeout := c.closeTimeout, openTimeout := c.openTimeout,
    lineLoss := c.lineLoss }

/-- No record flag set: a CHARGE record (Table 53). -/
def RecordFlags.clear : RecordFlags :=
  { staleZone := false, syncLost := false, cureHot := false, guardOpened := false, closeTimeout := false,
    openTimeout := false, lineLoss := false }

/-- The per-zone part of a zone at finalisation (R115 step 2). -/
def zonePartOf (z : ZoneNo) (r : ZoneRecord) : ZonePart :=
  { zone := z, staleSeen := r.staleSeen, sensorFault := r.sensorFault, underSeen := r.underSeen,
    overSeen := r.overSeen, min := r.cycMin, max := r.cycMax }

/-! ## The history record in bytes (12.4) -/

/-- A per-zone part in 6 bytes (Table 112). -/
def zonePartBytes (z : ZonePart) : List Byte :=
  [byteOf z.zone.val, zonePartFlags z] ++ optBytesInt z.min ++ optBytesInt z.max

/-- The fixed part of a record in 28 bytes (Table 111). -/
def recordFixed (r : Record) : List Byte :=
  toBytes 4 r.number.toNat ++
    [byteOf r.kind.code, optByte (r.press.map (·.val)), byteOf r.recipe.val, byteOf r.zoneCount] ++
    toBytes 4 ((r.serial.getD 0).toNat) ++ toBytes 2 r.chargeNo.toNat ++ toBytes 2 r.weight ++
    toBytesInt r.dev ++ optBytes2 r.age ++ optBytes2 r.cureTime ++ toBytes 2 r.permille ++
    toBytes 2 r.peak ++ [byteOf (r.retries * 16 + r.disposition.code), recordFlagsByte r.serial.isSome r.flags]

/-- The per-zone parts of a record. -/
def recordZones (r : Record) : List Byte := r.zones.flatMap zonePartBytes

/-- A whole record: the payload of its HIST frame (Table 104). -/
def recordBytes (r : Record) : List Byte := recordFixed r ++ recordZones r

end Sys2Proof.Machine
end

