-- ==== Sys2Proof/Machine/Ops.lean ====
section
/-!
DEFINITION. The named operations that several commands share: time and timers (R104), updates of one press,
zone or target, counters and notices (R166 to R172), and the history store (R134 to R139).
-/

namespace Sys2Proof.Machine

open Sys2Proof

/-! ## Time -/

/-- The time passed since a stamp, modulo 2^32 (00, Units). -/
def elapsed (now start : Time) : Nat := (now - start).toNat

/-- A running timer has reached its duration (R104; for the watch timers log 5). -/
def Timer.expired (now : Time) (t : Timer) : Bool := t.dur ≤ elapsed now t.start

/-- A timer, if it runs, has reached its duration. -/
def timerDue (now : Time) : Option Timer → Bool
  | some t => t.expired now
  | none => false

/-- A timer started now. -/
def State.timer (s : State) (dur : Nat) : Option Timer := some { start := s.now, dur := dur }

/-! ## Lists of numbers, in ascending order -/

/-- The zones, ascending. -/
def allZones : List ZoneNo := [0, 1, 2, 3, 4, 5, 6, 7, 8, 9, 10, 11, 12, 13, 14, 15]

/-- The presses, ascending. -/
def allPresses : List PressNo := [0, 1, 2, 3]

/-- The slots, ascending. -/
def allSlots : List SlotNo := List.finRange 64

/-- The entries of the channel table, ascending. -/
def allCht : List (Fin 64) := List.finRange 64

/-- The entries of the gate table, ascending. -/
def allGt : List (Fin 16) := [0, 1, 2, 3, 4, 5, 6, 7, 8, 9, 10, 11, 12, 13, 14, 15]

/-- The entries of the requester table, ascending. -/
def allAcc : List (Fin 4) := [0, 1, 2, 3]

/-- Every element of a vector changed by `f`. -/
def mapVector {α : Type} {n : Nat} (f : α → α) (v : Vector α n) : Vector α n :=
  ⟨⟨v.toArray.toList.map f⟩, by simp⟩

/-! ## Updates of one part of the state -/

/-- Change press `p`. -/
def State.updPress (s : State) (p : PressNo) (f : Press → Press) : State :=
  { s with presses := s.presses.set p (f s.presses[p]) }

/-- Change zone record `z`. -/
def State.updZone (s : State) (z : ZoneNo) (f : ZoneRecord → ZoneRecord) : State :=
  { s with zones := s.zones.set z (f s.zones[z]) }

/-- Set role target `t`. -/
def State.setTarget (s : State) (t : TargetNo) (x : Target) : State :=
  { s with targets := s.targets.set t x }

/-- Change the cycle record under construction of press `p`, if there is one. -/
def State.updCycle (s : State) (p : PressNo) (f : CycleRecord → CycleRecord) : State :=
  s.updPress p (fun q => { q with cycle := q.cycle.map f })

/-- Change the notice unit. -/
def State.updNotices (s : State) (f : NoticeUnit → NoticeUnit) : State := { s with notices := f s.notices }

/-- Change the latches. -/
def State.updLatches (s : State) (f : Latches → Latches) : State :=
  { s with notices := { s.notices with latches := f s.notices.latches } }

/-- Set slot `n` of the store. -/
def State.setSlot (s : State) (n : SlotNo) (x : Slot) : State :=
  { s with store := { s.store with slots := s.store.slots.set n x } }

/-! ## Tables read through -/

/-- A press is in cycle: in any state from CLOSING to UNLOADING, STUCK included (R101). -/
def PressState.inCycle : PressState → Bool
  | .idle => false
  | .ready => false
  | .closing => true
  | .curing => true
  | .cured => true
  | .opening => true
  | .opened => true
  | .ejecting => true
  | .stuck => true
  | .unloading => true

/-- The recipe a press has, if it has one. -/
def State.recipeOf (s : State) (p : PressNo) : Option Recipe :=
  s.presses[p].recipe.map (fun r => s.tables.rt[r])

/-- The press whose zone list holds the zone (R58). -/
def State.pressOf (s : State) (z : ZoneNo) : Option PressNo :=
  allPresses.find? (fun p => s.tables.pt[p].zones.contains z)

/-- The place of the zone in its press's zone list (R58). -/
def State.positionOf (s : State) (z : ZoneNo) : Option Nat :=
  (s.pressOf z).map (fun p => s.tables.pt[p].zones.idxOf z)

/-- The guard of a press is open: guard used, and the accepted level of its input is OPEN (R94, R119). -/
def State.guardOpen (s : State) (p : PressNo) : Bool :=
  s.tables.pt[p].guardUsed && s.guard[p].accepted.isOpen

/-- A recipe is valid: threshold above 0 and cure table 0 to 3 (R96). -/
def Recipe.valid (r : Recipe) : Bool := 0 < r.threshold && r.cureTable ≤ 3

/-- A curve is valid: its 13 raw counts are strictly ascending (R39). -/
def curveValid : List Breakpoint → Bool
  | [] => true
  | [_] => true
  | a :: b :: rest => (a.raw < b.raw) && curveValid (b :: rest)

/-- The role target a role and role index name, in the order of Table 24 (R25, R37). -/
def targetOf (role : Role) (index : Nat) : Option TargetNo :=
  match role with
  | .none => Option.none
  | .zoneTc => if h : index < 16 then some ⟨index, by omega⟩ else Option.none
  | .weigh => some 16
  | .platen => if h : index < 4 then some ⟨17 + index, by omega⟩ else Option.none
  | .ejectPos => if h : index < 4 then some ⟨21 + index, by omega⟩ else Option.none
  | .ejectForce => if h : index < 4 then some ⟨25 + index, by omega⟩ else Option.none

/-- The target of a zone's thermocouple. -/
def zoneTarget (z : ZoneNo) : TargetNo := ⟨z.val, by omega⟩

/-- The WEIGH target. -/
def weighTarget : TargetNo := 16

/-- A channel table entry whose role is not NONE is active (R25). -/
def ChtEntry.active (e : ChtEntry) : Bool := e.role != .none

/-- The role target an entry binds, if it is active (R25). -/
def ChtEntry.target (e : ChtEntry) : Option TargetNo := targetOf e.role e.index

/-- The number of the entry that binds a target (R37). -/
def Tables.binder (t : Tables) (x : TargetNo) : Option (Fin 64) :=
  allCht.find? (fun i => t.cht[i].target == some x)

/-- A target is FRESH (R35). -/
def Target.isFresh : Target → Bool
  | .unbound => false
  | .unrefreshed => false
  | .fresh _ _ _ => true
  | .stale _ _ => false

/-- A target is bound by some entry (R35). -/
def Target.isBound : Target → Bool
  | .unbound => false
  | .unrefreshed => true
  | .fresh _ _ _ => true
  | .stale _ _ => true

/-! ## Notices and counters (10) -/

/-- The enable mask enables a kind (R166, R169). -/
def NoticeUnit.enabled (n : NoticeUnit) (k : NoticeKind) : Bool := n.mask.getLsbD k.code

/-- A queued item equals a notice in kind, subject and detail (R167). -/
def Notice.same (a b : Notice) : Bool :=
  a.kind == b.kind && a.subject == b.subject && a.detail == b.detail

/-- Merge a notice into the item equal to it (R167). -/
def mergeNotice (q : List Notice) (it : Notice) : List Notice :=
  q.map (fun x => if x.same it then { x with count := min 255 (x.count + 1) } else x)

/-- Place a notice: discard, merge or append it; none where the queue is full (R166, R167). -/
def NoticeUnit.place (n : NoticeUnit) (it : Notice) : Option NoticeUnit :=
  if !n.enabled it.kind then some n
  else if n.queue.any (fun x => x.same it) then some { n with queue := mergeNotice n.queue it }
  else if n.queue.length < 16 then some { n with queue := n.queue ++ [it] }
  else none

/-- One more on a counter, saturating at 255 (R172). -/
def NoticeUnit.bump (n : NoticeUnit) (c : Fin 12) : NoticeUnit :=
  { n with counters := n.counters.set c (min 255 (n.counters[c] + 1)) }

/-- A notice is dropped for a full queue: drop counter and overflow latch (R167). -/
def NoticeUnit.drop (n : NoticeUnit) : NoticeUnit :=
  { n.bump 11 with latches := { n.latches with overflow := true } }

/-- The item of a notice raised now with count 1 (R166). -/
def newNotice (now : Time) (k : NoticeKind) (subject detail : Nat) : Notice :=
  { kind := k, subject := byteOf subject, detail := BitVec.ofNat 16 detail, count := 1, first := now }

/-- An increment takes a counter from 127 to 128 with its half-mark flag clear (R172). -/
def NoticeUnit.atHalf (n : NoticeUnit) (c : Fin 12) : Bool := n.counters[c] == 127 && !n.half[c]

/-- Set a counter's half-mark flag (R172). -/
def NoticeUnit.markHalf (n : NoticeUnit) (c : Fin 12) : NoticeUnit := { n with half := n.half.set c true }

/-- Hand a notice to the unit. A drop that takes the notice drop counter to 128 raises COUNTER_HALF for
counter 11 once, which meets the same queue (R166, R167). -/
def NoticeUnit.raise (n : NoticeUnit) (it : Notice) : NoticeUnit :=
  match n.place it with
  | some n' => n'
  | none =>
    if n.atHalf 11 then
      let n2 := (n.drop).markHalf 11
      match n2.place (newNotice it.first .counterHalf 11 0) with
      | some n3 => n3
      | none => n2.drop
    else n.drop

/-- Raise a notice at this event (R166). -/
def State.raise (s : State) (k : NoticeKind) (subject detail : Nat) : State :=
  s.updNotices (fun n => n.raise (newNotice s.now k subject detail))

/-- Increment a counter, raising COUNTER_HALF at its half mark (R172). -/
def State.count (s : State) (c : Fin 12) : State :=
  let s1 := s.updNotices (fun n => n.bump c)
  if s.notices.atHalf c then (s1.updNotices (fun n => n.markHalf c)).raise .counterHalf c.val 0 else s1

/-! ## The history store (08) -/

/-- A record number precedes another: their distance modulo 2^32 is 1 to 2,147,483,647 (R137). -/
def precedes (a b : Number) : Bool := 1 ≤ (b - a).toNat && (b - a).toNat ≤ 2147483647

/-- A record is numbered up to n (R137). -/
def upTo (a n : Number) : Bool := a == n || precedes a n

/-- A slot is FREE. -/
def Slot.isFree : Slot → Bool
  | .free => true
  | .reserved _ => false
  | .stored _ _ => false

/-- A slot is RESERVED. -/
def Slot.isReserved : Slot → Bool
  | .free => false
  | .reserved _ => true
  | .stored _ _ => false

/-- A slot is STORED. -/
def Slot.isStored : Slot → Bool
  | .free => false
  | .reserved _ => false
  | .stored _ _ => true

/-- The record of a STORED slot. -/
def Slot.record? : Slot → Option Record
  | .free => none
  | .reserved _ => none
  | .stored r _ => some r

/-- The number of slots of a kind. -/
def Store.countSlots (t : Store) (f : Slot → Bool) : Nat := (allSlots.filter (fun i => f t.slots[i])).length

/-- The lowest-numbered FREE slot (R135). -/
def Store.firstFree (t : Store) : Option SlotNo := allSlots.find? (fun i => t.slots[i].isFree)

/-- The number of the record in slot `i`, if the slot is STORED and its delivery state satisfies `f`. -/
def Store.numberAt (t : Store) (f : Delivery → Bool) (i : SlotNo) : Option Number :=
  match t.slots[i] with
  | .free => none
  | .reserved _ => none
  | .stored r d => if f d then some r.number else none

/-- One step of the search for the extreme record number under an order. -/
def Store.betterSlot (t : Store) (f : Delivery → Bool) (before : Number → Number → Bool)
    (best : Option SlotNo) (i : SlotNo) : Option SlotNo :=
  match t.numberAt f i, best.bind (fun b => t.numberAt f b) with
  | some a, some b => if before a b then some i else best
  | some _, none => some i
  | none, _ => best

/-- The oldest stored record that satisfies `f`: the one whose number precedes the others' (R137). -/
def Store.oldest (t : Store) (f : Delivery → Bool) : Option SlotNo :=
  allSlots.foldl (t.betterSlot f precedes) none

/-- The highest-numbered stored record (R139). -/
def Store.highest (t : Store) : Option SlotNo :=
  allSlots.foldl (t.betterSlot (fun _ => true) (fun a b => precedes b a)) none

/-- The slot of the stored record with a number (R147). -/
def Store.find (t : Store) (n : Number) : Option SlotNo :=
  allSlots.find? (fun i => t.numberAt (fun _ => true) i == some n)

/-- A record is not delivered on channel 0 (R140). -/
def Delivery.undelivered0 (d : Delivery) : Bool := !d.delivered0

/-- A record is owed to channel 1 and not delivered on it (R144). -/
def Delivery.owing1 (d : Delivery) : Bool := d.owed1 && !d.delivered1

/-- The next record of drain channel 0 (R140). -/
def Store.next0 (t : Store) : Option SlotNo := t.oldest Delivery.undelivered0

/-- The next record of drain channel 1 (R144). -/
def Store.next1 (t : Store) : Option SlotNo := t.oldest Delivery.owing1

/-- A record leaves the store when it is released and owes nothing to channel 1 (R138). -/
def Slot.settle : Slot → Slot
  | .free => .free
  | .reserved h => .reserved h
  | .stored r d => if d.released && !d.owing1 then .free else .stored r d

/-- Change the delivery state of a STORED slot, then test it for freeing (R138). -/
def Slot.deliver (f : Delivery → Delivery) : Slot → Slot
  | .free => .free
  | .reserved h => .reserved h
  | .stored r d => (Slot.stored r (f d)).settle

/-- Reserve a FREE slot for a holder, raising STORE_LOW when the free count falls below the low mark
(R135). -/
def State.reserveSlot (s : State) (n : SlotNo) (h : Holder) : State :=
  let before := s.store.countSlots Slot.isFree
  let s1 := s.setSlot n (.reserved h)
  let after := s1.store.countSlots Slot.isFree
  if s.tables.sys.lowMark ≤ before && after < s.tables.sys.lowMark then s1.raise .storeLow 0 after else s1

/-- Finalisation of a completed record into its slot: it is numbered, stored with its channel 1 obligation
fixed, and RECORD_STORED is raised (R136). -/
def State.storeRecord (s : State) (n : SlotNo) (r : Record) : State :=
  let d : Delivery := { delivered0 := false, owed1 := s.tables.sys.recorder != 0, delivered1 := false,
                        released := false }
  let s1 := s.setSlot n (.stored { r with number := s.store.recordNo } d)
  let s2 := { s1 with store := { s1.store with recordNo := s1.store.recordNo + 1 } }
  s2.raise .recordStored (match r.press with | some p => p.val | none => 255) r.disposition.code

/-! ## The two ends of the out-halves that several commands reach -/

/-- End a channel 0 run that ends with a DRAIN_DONE: the channel becomes IDLE, the block-drain hold OFF, and
for COUNT and DRY the terminal flag is set (R142). -/
def State.endRun (s : State) (c : EndCause) : State :=
  let s1 := { s with drain0 := { s.drain0 with running := false }, line := { s.line with hold := .off } }
  let s2 := if c == .stopped then s1 else s1.updLatches (fun l => { l with terminal := true })
  s2.raise .drainDone 0 (c.code * 256 + s.drain0.delivered)

/-- Append a frame to the DOWN buffer as traffic (R8). -/
def State.pushDown (s : State) (f : Frame) : State :=
  { s with line := { s.line with
      down := s.line.down ++ [{ frame := f, strokeOf := none, awaitedBy := none, uncounted := false }] } }

/-- Append a frame to the release list (R13). -/
def State.pushRelease (s : State) (p : PressNo) (k : ReleaseKind) (f : Frame) : State :=
  { s with line := { s.line with release := s.line.release ++ [{ press := p, kind := k, frame := f }] } }

end Sys2Proof.Machine
end

