-- ==== Sys2Proof/Machine/Line.lean ====
section
/-!
DEFINITION. The watches and the census of the cell line (01): the sync watch (R17), the loss watch
(R18 to R20) without its effect on presses, and the census (R21 to R24).
-/

namespace Sys2Proof.Machine

open Sys2Proof

/-! ## Sync watch (R17) -/

/-- A good SYNC arrives on U-in: the timer restarts with the sync timeout in SYS, and from SYNC_LOST the
watch returns to SYNC_OK raising SYNC_RESTORED (R17). -/
def State.syncArrival (s : State) : State :=
  let s1 := { s with sync := { lost := false, timer := s.timer s.tables.sys.syncMs } }
  if s.sync.lost then s1.raise .syncRestored 0 0 else s1

/-! ## Loss watch (R18 to R20) -/

/-- The bad outcomes the window holds. -/
def badCount (w : List Bool) : Nat := (w.filter (fun b => !b)).length

/-- Add an outcome at the tail; once 16 are held the oldest is pushed out (R18). -/
def pushOutcome (w : List Bool) (good : Bool) : List Bool :=
  let w1 := w ++ [good]
  w1.drop (w1.length - 16)

/-- A good frame on D-in: outcome, good run, silence timer, and the return to D_OK at the fourth of a run
(R18, R20). -/
def State.lossGood (s : State) : State :=
  let run := min 4 (s.loss.goodRun + 1)
  let t := s.timer s.tables.sys.silenceMs
  if s.loss.lost && run == 4 then
    { s with loss := { lost := false, silence := false, burst := false, window := [], goodRun := run,
                       timer := t } }.raise .lineRestoredD 1 0
  else
    { s with loss := { s.loss with window := pushOutcome s.loss.window true, goodRun := run, timer := t } }

/-- A cause is declared or added: it joins the latch of causes seen (R19). -/
def State.latchCause (s : State) (burst : Bool) : State :=
  s.updLatches (fun l => if burst then { l with errorBurst := true } else { l with silence := true })

/-- The declaration of a cause in D_OK: D_LOST with that cause alone, the good run set to 0, and LINE_LOSS_D
(R19). -/
def State.declareLoss (s : State) (burst : Bool) : State :=
  ({ s with loss := { s.loss with lost := true, silence := !burst, burst := burst, goodRun := 0 } }.raise
    .lineLossD 1 burst.toNat).latchCause burst

/-- A cause added in D_LOST: no further notice (R19). -/
def State.addCause (s : State) (burst : Bool) : State :=
  { s with loss := { s.loss with silence := s.loss.silence || !burst, burst := s.loss.burst || burst } }.latchCause
    burst

/-! ## Census (R21 to R24) -/

/-- An address names an expected node when it is 1 to 47 (R21). -/
def isNode (a : Addr) : Bool := 1 ≤ a.toNat && a.toNat ≤ 47

/-- Every address the tables name, in any order, repeats included (R21 step 2). -/
def Tables.named (t : Tables) : List Addr :=
  (t.cht.toList.filter ChtEntry.active).map (·.node) ++ t.zt.toList.map (·.heater) ++
    t.pt.toList.map (·.marker) ++ t.pt.toList.map (·.ejector) ++ t.gt.toList.map (·.dest) ++
    [t.sys.recorder]

/-- The node addresses, ascending. -/
def allNodes : List Addr := (List.range 48).map (fun n => BitVec.ofNat 6 n)

/-- The expected list: every node named, once, ascending (R21). -/
def Tables.expectedNodes (t : Tables) : List Addr :=
  let names := t.named
  allNodes.filter (fun a => isNode a && names.contains a)

/-- The census completes: verdict, the pass latch, CENSUS_DONE (R23, R24). -/
def State.censusComplete (s : State) : State :=
  let pass := s.census.missing.isEmpty
  let v : CensusVerdict := if pass then .pass else .fail
  { s with census := { s.census with state := .done, phase := .none, todo := [], verdict := some v,
                                     passLatch := pass && (!s.census.dirty || s.census.passLatch) } }.raise
    .censusDone s.census.missing.length v.code

/-- The window of the address in hand closes: it is present, or missing at the tail of the missing list;
then the next probe becomes pending, or the census completes (R22, R23). -/
def State.censusNext (s : State) (answered : Bool) : State :=
  match s.census.todo with
  | [] => s
  | a :: rest =>
    let missing := if answered then s.census.missing else s.census.missing ++ [a]
    let s1 := { s with census := { s.census with phase := .pending, todo := rest, missing := missing } }
    if rest.isEmpty then s1.censusComplete else s1

/-- A write to the CHT, ZT, PT, GT or SYS is taken: the pass latch is cleared, and a RUNNING census will not
set it (R24). -/
def State.censusTouch (s : State) : State :=
  { s with census := { s.census with passLatch := false,
                                     dirty := s.census.dirty || s.census.state == .running } }

/-- The source of a frame is the probed address and its window is open (R7, R22). -/
def State.censusAnswer (s : State) (f : Frame) : Bool :=
  match s.census.phase, s.census.todo with
  | .window _, a :: _ => f.kind == kindCens && f.srcAddr == a
  | _, _ => false

end Sys2Proof.Machine
end

