-- ==== Sys2Proof/Machine/Thermal.lean ====
section
/-!
DEFINITION. Temperature and cure arithmetic (03): conversion on a curve (R41 to R43), reconversion (R44),
cycle extremes (R46), cure increment and index (R48 to R51), minimum cure permille (R52). All of it is exact
integer arithmetic narrowed where the rule says so.
-/

namespace Sys2Proof.Machine

open Sys2Proof

/-- A value replaced by the nearest range limit (00, Quantities). -/
def clampInt (lo hi x : Int) : Int := max lo (min hi x)

/-- N / D rounded to nearest, an exact half away from zero; D is positive (R42 step 3). -/
def roundHalfAway (n : Int) (d : Nat) : Int :=
  if 0 ≤ n then Int.fdiv (2 * n + d) (2 * d) else -(Int.fdiv (-2 * n + d) (2 * d))

/-- The interpolated temperature within a segment (R42). -/
def interpolate (a b : Breakpoint) (r : Nat) : Int :=
  a.temp + roundHalfAway (((r : Int) - a.raw) * (b.temp - a.temp)) (b.raw - a.raw)

/-- From the breakpoint `a` on, the lowest segment that holds `r`, or OVER beyond the last (Table 27). -/
def segmentFrom (r : Nat) (a : Breakpoint) : List Breakpoint → Int × RangeFlag
  | [] => (a.temp, if a.raw < r then .over else .none)
  | b :: rest => if r ≤ b.raw then (interpolate a b r, .none) else segmentFrom r b rest

/-- The interpolated temperature and provisional range flag of a raw count on a valid curve (Table 27). -/
def curvePoint (c : List Breakpoint) (r : Nat) : Int × RangeFlag :=
  match c with
  | [] => (0, .none)
  | a :: rest => if r < a.raw then (a.temp, .under) else segmentFrom r a rest

/-- Add the offset and clamp; where the clamp acts its flag replaces the provisional one (R43). -/
def withOffset (t : Int) (f : RangeFlag) (o : Int) : Int × RangeFlag :=
  if t + o < -400 then (-400, .under)
  else if 4000 < t + o then (4000, .over)
  else (t + o, f)

/-- The temperature and range flag of a raw count on a curve with an offset; no temperature on an invalid
curve (R41 to R43). -/
def convert (c : List Breakpoint) (o : Int) (r : Nat) : Option Int × RangeFlag :=
  if curveValid c then
    let p := curvePoint c r
    let q := withOffset p.1 p.2 o
    (some q.1, q.2)
  else (none, .none)

/-- The conversion of a raw count for zone `z` with the tables as applied (R41). -/
def State.convertFor (s : State) (z : ZoneNo) (r : Nat) : Option Int × RangeFlag :=
  convert s.tables.lin[s.tables.zt[z].curve] s.tables.zt[z].offset r

/-- The lower of an absent or held minimum and a temperature (R46). -/
def lowerOf : Option Int → Int → Option Int
  | none, t => some t
  | some m, t => some (min m t)

/-- The higher of an absent or held maximum and a temperature (R46). -/
def higherOf : Option Int → Int → Option Int
  | none, t => some t
  | some m, t => some (max m t)

/-- The cycle fields after a conversion during CURING; one without a temperature updates none (R46). -/
def updateExtremes (z : ZoneRecord) : ZoneRecord :=
  match z.temp with
  | none => z
  | some t =>
    { z with cycMin := lowerOf z.cycMin t, cycMax := higherOf z.cycMax t,
             underSeen := z.underSeen || z.range == .under, overSeen := z.overSeen || z.range == .over }

/-- A zone's press is in CURING. -/
def State.zoneCuring (s : State) (z : ZoneNo) : Bool :=
  match s.pressOf z with
  | some p => s.presses[p].state == .curing
  | none => false

/-- A good ZONE_TC reading handed to zone `z`: converted, with the cycle extremes while CURING (R41, R46). -/
def State.zoneReading (s : State) (z : ZoneNo) (r : Nat) : State :=
  let c := s.convertFor z r
  s.updZone z (fun q =>
    let q1 := { q with temp := c.1, range := c.2 }
    if s.zoneCuring z then updateExtremes q1 else q1)

/-- The last raw count a target holds, FRESH or STALE. -/
def Target.raw? : Target → Option Nat
  | .unbound => none
  | .unrefreshed => none
  | .fresh v _ _ => some v
  | .stale v _ => some v

/-- Reconvert zone `z` from its last raw count, leaving the cycle fields (R44). -/
def State.reconvert (s : State) (z : ZoneNo) : State :=
  match s.targets[zoneTarget z].raw? with
  | none => s
  | some r =>
    let c := s.convertFor z r
    s.updZone z (fun q => { q with temp := c.1, range := c.2 })

/-! ## Cure -/

/-- The division of R48 by 50, with the quotient truncated toward zero. -/
def cureCorrection (lo hi dt : Int) : Int := Int.tdiv ((hi - lo) * dt) 50

/-- The cure increment of a temperature on a cure rate table (Table 30). -/
def cureIncrement (rates : List Nat) (t : Int) : Nat :=
  if t < 800 then 0
  else if 1950 ≤ t then rates.getD 23 0
  else
    let i := ((t - 800) / 50).toNat
    let lo : Int := rates.getD i 0
    let hi : Int := rates.getD (i + 1) 0
    (lo + cureCorrection lo hi (t - 800 - 50 * i)).toNat

/-- The largest cure index (R51). -/
def maxCure : Nat := 16777215

/-- A fresh zone of a CURING press adds its increment, saturating, and is marked cure-hot from 2,000 tenths
(R49, R50, R51). -/
def addCure (rates : List Nat) (z : ZoneRecord) : ZoneRecord :=
  match z.temp with
  | none => z
  | some t => { z with cure := min maxCure (z.cure + cureIncrement rates t),
                       cureHot := z.cureHot || decide (2000 ≤ t) }

/-- The lowest of some numbers, 0 of none. -/
def lowest : List Nat → Nat
  | [] => 0
  | [a] => a
  | a :: b :: rest => min a (lowest (b :: rest))

/-- The minimum cure permille of some cure indices against a threshold (R52). -/
def curePermille (indices : List Nat) (threshold : Nat) : Nat :=
  min 65535 (lowest indices * 1000 / threshold)

end Sys2Proof.Machine
end

