-- ==== Sys2Proof/Machine/Press.lean ====
section
/-!
DEFINITION. The press sequencers and ejection monitors (06, 07): state changes, finalisation (R115), the
CURED event (R107), platen, position and force readings (R105, R110, R121, R127, R128), STUCK (R123), halts
(R125), guard openings (R119) and the loss watch's effect on strokes (R124).
-/

namespace Sys2Proof.Machine

open Sys2Proof

/-- Change a press's state; every change raises PRESS_STATE with the new state (R101). -/
def State.setPressState (s : State) (p : PressNo) (st : PressState) : State :=
  if s.presses[p].state == st then s
  else (s.updPress p (fun q => { q with state := st })).raise .pressState p.val st.code

/-- A press's five timers cancelled (R115 step 1). -/
def Press.cancelTimers (q : Press) : Press :=
  { q with closeT := none, dwellT := none, holdT := none, openT := none, ejectT := none }

/-- The zone records of a press's zone list, in list order. -/
def State.zonesOf (s : State) (p : PressNo) : List ZoneRecord := s.tables.pt[p].zones.map (fun z => s.zones[z])

/-- The completed PART record of a press's cycle; its number is given by the store (R115 step 2, R114). -/
def State.partRecord (s : State) (p : PressNo) (c : CycleRecord) (r : RecipeNo) (d : Disposition) : Record :=
  { number := 0, kind := .part, press := some p, recipe := r, zoneCount := c.zoneCount, serial := c.serial,
    chargeNo := c.chargeNo, weight := c.weight, dev := c.dev, age := some c.age, cureTime := c.cureTime,
    permille := curePermille ((s.zonesOf p).map (·.cure)) s.tables.rt[r].threshold,
    peak := s.presses[p].peak, retries := c.retries, disposition := d,
    flags := finalFlags c (s.zonesOf p),
    zones := s.tables.pt[p].zones.map (fun z => zonePartOf z s.zones[z]) }

/-- Finalisation of a press's cycle: timers cancelled, held OPEN discarded, the record handed to the store
with the slot the press holds, and the press enters READY or IDLE (R115). -/
def State.finalise (s : State) (p : PressNo) (d : Disposition) (next : PressState) : State :=
  let q := s.presses[p]
  let s1 := s.updPress p (fun q => { q.cancelTimers with hold := none })
  let s2 :=
    match q.cycle, q.recipe, q.slot with
    | some c, some r, some n => s1.storeRecord n (s1.partRecord p c r d)
    | _, _, _ => s1
  (s2.updPress p (fun q => { q with slot := none, cycle := none })).setPressState p next

/-! ## Halts and STUCK -/

/-- The halt command of a press, from its PT entry as it stands (R125). -/
def State.haltFrame (s : State) (p : PressNo) : Frame :=
  buildFrame s.own s.tables.pt[p].ejector kindCmd [s.tables.pt[p].haltCode, 0]

/-- The EJECT of the press's latest stroke still stands in the DOWN buffer (R125). -/
def State.ejectStands (s : State) (p : PressNo) : Bool := s.line.down.any (fun d => d.strokeOf == some p)

/-- Tie the press's WAITING halt to the EJECT of its latest stroke. -/
def tieHalt (p : PressNo) (down : List DownItem) : List DownItem :=
  down.map (fun d =>
    if d.strokeOf == some p then { d with awaitedBy := some p }
    else if d.awaitedBy == some p then { d with awaitedBy := none } else d)

/-- The frame a halt item holds. -/
def Halt.frame? : Halt → Option Frame
  | .none => Option.none
  | .waiting f => some f
  | .ready f => some f

/-- Order a halt for a press: WAITING behind the EJECT of the current stroke if that stands in the DOWN
buffer, READY otherwise; an item already held keeps its frame and is re-tied (R125). -/
def State.orderHalt (s : State) (p : PressNo) : State :=
  let f := (s.presses[p].halt.frame?).getD (s.haltFrame p)
  if s.ejectStands p then
    ({ s with line := { s.line with down := tieHalt p s.line.down } }).updPress p
      (fun q => { q with halt := .waiting f })
  else if s.presses[p].halt == .none then s.updPress p (fun q => { q with halt := .ready f })
  else s

/-- The record flag a cause of STUCK sets (Table 72). -/
def StuckCause.mark (c : StuckCause) (y : CycleRecord) : CycleRecord :=
  match c with
  | .force => y
  | .guard => { y with guardOpened := true }
  | .line => { y with lineLoss := true }
  | .timeout => y

/-- A press in EJECTING enters STUCK (R123). -/
def State.enterStuck (s : State) (p : PressNo) (c : StuckCause) : State :=
  let s1 := s.updPress p (fun q => { q with ejectT := none, debounce := 0, stuckCause := some c })
  let s2 := (s1.updCycle p c.mark).orderHalt p
  (s2.setPressState p .stuck).raise .ejectStuck p.val c.code

/-- A guard opening for a press, by its state (Table 70). -/
def State.guardOpening (s : State) (p : PressNo) : State :=
  match s.presses[p].state with
  | .idle => s
  | .ready => s
  | .opened => s
  | .ejecting => s.enterStuck p .guard
  | .closing => s.updCycle p (fun c => { c with guardOpened := true })
  | .curing => s.updCycle p (fun c => { c with guardOpened := true })
  | .cured => s.updCycle p (fun c => { c with guardOpened := true })
  | .opening => s.updCycle p (fun c => { c with guardOpened := true })
  | .stuck => s.updCycle p (fun c => { c with guardOpened := true })
  | .unloading => s.updCycle p (fun c => { c with guardOpened := true })

/-! ## Loss watch with its effect on strokes -/

/-- A press in EJECTING at the move to D_LOST enters STUCK with cause LINE (R124). -/
def State.lineStuck (s : State) (p : PressNo) : State :=
  if s.presses[p].state == .ejecting then s.enterStuck p .line else s

/-- A cause is found: in D_OK it is declared and the strokes are stopped in press order; in D_LOST it is
added (R19, R124). -/
def State.lossCause (s : State) (burst : Bool) : State :=
  if s.loss.lost then s.addCause burst
  else allPresses.foldl State.lineStuck (s.declareLoss burst)

/-- A bad frame on D-in: outcome, good run 0, and ERROR_BURST with 8 bad outcomes in the window (R18, R19). -/
def State.lossBad (s : State) : State :=
  let w := pushOutcome s.loss.window false
  let s1 := { s with loss := { s.loss with window := w, goodRun := 0 } }
  if 8 ≤ badCount w then s1.lossCause true else s1

/-! ## Strokes (R120) -/

/-- Forward an EJECT and mark it as the one that began the press's latest stroke (R100, R125). -/
def State.pushEject (s : State) (p : PressNo) (f : Frame) : State :=
  let down := s.line.down.map (fun d => if d.strokeOf == some p then { d with strokeOf := none } else d)
  { s with line := { s.line with
      down := down ++ [{ frame := f, strokeOf := some p, awaitedBy := none, uncounted := false }] } }

/-- A stroke starts on a forwarded EJECT; in D_LOST the press goes on to STUCK at once (R111, R120). -/
def State.startStroke (s : State) (p : PressNo) (f : Frame) : State :=
  let s1 := (s.pushEject p f).updPress p (fun q =>
    { q with stroke := q.stroke + 1, ejectStart := some s.now, debounce := 0, stuckCause := none,
             ejectT := s.timer s.tables.pt[p].ejectMs })
  let s2 := s1.setPressState p .ejecting
  if s.loss.lost then s2.enterStuck p .line else s2

/-- The envelope segment of a time in a stroke, 7 at most (R121 step 1). -/
def segmentAt (now start : Time) (segLen : Nat) : Nat := min 7 (elapsed now start / segLen)

/-- The peak after a force reading (R121 step 2). -/
def Press.trackPeak (q : Press) (f k : Nat) : Press :=
  if q.peak < f then { q with peak := f, peakSeg := some k, peakStroke := some q.stroke } else q

/-- A good EJECT_FORCE reading for a press in EJECTING (R121, R122); for another state it is not tested. -/
def State.forceReading (s : State) (p : PressNo) (f : Nat) : State :=
  match s.presses[p].state == .ejecting, s.recipeOf p, s.presses[p].ejectStart with
  | true, some r, some t0 =>
    let k := segmentAt s.now t0 r.segLen
    let s1 := s.updPress p (fun q => q.trackPeak f k)
    if r.peakLimit < f then s1.enterStuck p .force
    else
      let run := if r.segMax.getD k 0 < f then s.presses[p].debounce + 1 else 0
      let s2 := s1.updPress p (fun q => { q with debounce := run })
      if r.debounce ≤ run then s2.enterStuck p .force else s2
  | _, _, _ => s

/-- The LABL frame of a panel (R127 step 4, Table 104). -/
def State.labelFrame (s : State) (p : PressNo) (serial : Number) : State :=
  match s.presses[p].cycle, s.presses[p].recipe with
  | some c, some r =>
    s.pushRelease p .label (buildFrame s.own s.tables.pt[p].marker kindLabl
      (toBytes 4 serial.toNat ++ [byteOf p.val, byteOf r.val] ++ toBytes 2 c.chargeNo.toNat))
  | _, _ => s

/-- The ejector is out: serial, label and UNLOADING (R127). -/
def State.ejectorOut (s : State) (p : PressNo) : State :=
  let serial := s.store.serial
  let s1 := s.updPress p (fun q => { q with ejectT := none })
  let s2 := s1.updCycle p (fun c => { c with serial := some serial })
  let s3 := { s2 with store := { s2.store with serial := serial + 1 } }
  let s4 := if s.tables.pt[p].marker != 0 then s3.labelFrame p serial else s3
  s4.setPressState p .unloading

/-- A good EJECT_POS reading: out in EJECTING, home in UNLOADING, no effect otherwise (R127, R128). -/
def State.posReading (s : State) (p : PressNo) (v : Nat) : State :=
  match s.presses[p].state with
  | .ejecting => if s.tables.pt[p].outAt ≤ v then s.ejectorOut p else s
  | .unloading =>
    if v ≤ s.tables.pt[p].homeAt then
      s.finalise p (if s.presses[p].override then .override else .good) .ready
    else s
  | .idle => s
  | .ready => s
  | .closing => s
  | .curing => s
  | .cured => s
  | .opening => s
  | .opened => s
  | .stuck => s

/-! ## Platen readings (R105, R110) -/

/-- Set the sync-lost flag on every zone of a press (R67). -/
def State.flagSyncLost (s : State) (p : PressNo) : State :=
  s.tables.pt[p].zones.foldl (fun s z => s.updZone z (fun q => { q with syncLost := true })) s

/-- The platen is closed: closed time, dwell, CURING (R105). -/
def State.platenClosed (s : State) (p : PressNo) : State :=
  let dwell := (s.recipeOf p).elim 0 (·.dwell)
  let s1 := s.updPress p (fun q =>
    { q with closed := some s.now, closeT := none, dwellDone := dwell == 0,
             dwellT := if dwell == 0 then none else s.timer (1000 * dwell) })
  let s2 := if s.sync.lost then s1.flagSyncLost p else s1
  s2.setPressState p .curing

/-- A good PLATEN reading: closed in CLOSING, open in OPENING, no effect otherwise (R105, R110). -/
def State.platenReading (s : State) (p : PressNo) (v : Nat) : State :=
  match s.presses[p].state with
  | .closing => if v ≤ s.tables.pt[p].closedAt then s.platenClosed p else s
  | .opening =>
    if s.tables.pt[p].openAt ≤ v then
      (s.updPress p (fun q => { q with openT := none })).setPressState p .opened
    else s
  | .idle => s
  | .ready => s
  | .curing => s
  | .cured => s
  | .opened => s
  | .ejecting => s
  | .stuck => s
  | .unloading => s

/-! ## CURED (R107) -/

/-- The CURED test of a press (R107). -/
def State.curedTest (s : State) (p : PressNo) : Bool :=
  s.presses[p].state == .curing && s.presses[p].dwellDone &&
    (s.recipeOf p).elim false (fun r => (s.zonesOf p).all (fun z => r.threshold ≤ z.cure))

/-- Seconds since a stamp, floored and capped at 65,534 (R89, R107). -/
def secondsSince (now t : Time) : Nat := min 65534 (elapsed now t / 1000)

/-- Release a held OPEN: hold timer cancelled, release list, OPEN_RELEASED, open timer, OPENING (R107). -/
def State.releaseOpen (s : State) (p : PressNo) (f : Frame) : State :=
  let s1 := (s.updPress p (fun q => { q with hold := none, holdT := none })).pushRelease p .openCmd f
  let s2 := s1.raise .openReleased p.val 0
  (s2.updPress p (fun q => { q with openT := s.timer s.tables.pt[p].openMs })).setPressState p .opening

/-- The CURED event: cure time, CURED, and the release of a held OPEN (R107). -/
def State.becomeCured (s : State) (p : PressNo) : State :=
  let time := (s.presses[p].closed).map (secondsSince s.now)
  let s1 := s.updCycle p (fun c => { c with cureTime := time })
  let s2 := (s1.updPress p (fun q => { q with dwellT := none })).setPressState p .cured
  match s.presses[p].hold with
  | some f => s2.releaseOpen p f
  | none => s2

/-- Make the CURED test of a press, and take its CURED event if it is met (R107). -/
def State.testCured (s : State) (p : PressNo) : State := if s.curedTest p then s.becomeCured p else s

/-! ## Ending a cycle from outside -/

/-- Order a halt if the press is in EJECTING, as PRESS SCRAP, PRESS ABORT and MODE STOP do (R130). -/
def State.haltIfEjecting (s : State) (p : PressNo) : State :=
  if s.presses[p].state == .ejecting then s.orderHalt p else s

/-- A zone's regulation cleared (R58). -/
def ZoneRecord.cleared (z : ZoneRecord) (st : ZoneState) : ZoneRecord :=
  { z with state := st, integ := 0, lastDuty := 0, staleCount := 0, preset := 0 }

/-- Every zone of a press cleared into a state (R58). -/
def State.clearZones (s : State) (p : PressNo) (st : ZoneState) : State :=
  s.tables.pt[p].zones.foldl (fun s z => s.updZone z (fun q => q.cleared st)) s

/-- A press enters IDLE with recipe none: hold slot emptied, timers cancelled, zones cleared (R116). -/
def State.pressToIdle (s : State) (p : PressNo) : State :=
  let s1 := s.updPress p (fun q => { q.cancelTimers with recipe := none, hold := none })
  (s1.clearZones p .idle).setPressState p .idle

end Sys2Proof.Machine
end

