-- ==== Sys2Proof/Machine/Weigh.lean ====
section
/-!
DEFINITION. The weigh station and the charge queue (05): conversion (R74), window (R75), station moves
(R76 to R83), charge numbers and records (R85, R86), acceptance (R87), expiry (R88) and taking (R89).
-/

namespace Sys2Proof.Machine

open Sys2Proof

/-- The weight in grams of a raw value (R74). -/
def weightOf (y : Sys) (r : Nat) : Nat :=
  (clampInt 0 60000 (Int.fdiv (((r : Int) - y.weighZero) * y.weighGain + 2048) 4096)).toNat

/-- Push an item; the oldest beyond M are removed (R75). -/
def pushItem (w : List WeighItem) (m : Nat) (i : WeighItem) : List WeighItem :=
  let w1 := w ++ [i]
  w1.drop (w1.length - m)

/-- The largest of some numbers, 0 of none. -/
def largest (ns : List Nat) : Nat := ns.foldl max 0

/-- The spread of a window: largest weight minus smallest (R75, R93). -/
def windowSpread (w : List WeighItem) : Nat := largest (w.map (·.weight)) - lowest (w.map (·.weight))

/-- A window is stable (R75). -/
def windowStable (y : Sys) (w : List WeighItem) : Bool :=
  w.length == y.weighM && windowSpread w ≤ y.weighBand

/-- The mean of M values rounded to nearest, an exact half up: floor((2S + M) / (2M)) (R75). -/
def roundedMean (vals : List Nat) : Nat := (2 * vals.sum + vals.length) / (2 * vals.length)

/-- The stable weight of a window (R75). -/
def stableWeight (w : List WeighItem) : Nat := roundedMean (w.map (·.weight))

/-- The stable raw value of a window (R75, R82). -/
def stableRaw (w : List WeighItem) : Nat := roundedMean (w.map (·.raw))

/-- The verdict of a stable weight against a recipe (R79). -/
def verdictOf (r : Recipe) (w : Nat) : Verdict :=
  if (w : Int) < (r.target : Int) - r.tolLow then .under
  else if (w : Int) ≤ (r.target : Int) + r.tolHigh then .within
  else .over

/-- The deviation of a stable weight, clamped (R79). -/
def deviationOf (r : Recipe) (w : Nat) : Int := clampInt (-32768) 32767 ((w : Int) - r.target)

/-- The station is in LOADING or STABLE: a load is on the pan. -/
def WeighState.loaded : WeighState → Bool
  | .off => false
  | .noSignal => false
  | .empty => false
  | .loading => true
  | .stable _ _ _ => true

/-- Move the station to a state with an empty window. -/
def State.weighMove (s : State) (st : WeighState) : State :=
  { s with weigh := { s.weigh with state := st, window := [] } }

/-- At least one of the conditions for OFF holds (R76). -/
def State.weighOffHolds (s : State) : Bool :=
  s.mode == .config || !(s.targets[weighTarget].isBound) || s.weigh.recipe.isNone

/-- Enter OFF; a load on the pan is counted unsettled unless told otherwise (R76, R92). -/
def State.weighEnterOff (s : State) (counted : Bool) : State :=
  let s1 := s.weighMove .off
  if counted && s.weigh.state.loaded then s1.count 9 else s1

/-- Enter or leave OFF as the conditions of R76 now stand. -/
def State.weighGate (s : State) : State :=
  if s.weighOffHolds then
    (if s.weigh.state == .off then s else s.weighEnterOff true)
  else if s.weigh.state == .off then s.weighMove .noSignal else s

/-! ## Charge numbers and records -/

/-- The first number from a candidate on that no queued entry holds (R85). -/
def freeNumber (held : List ChargeNo) : Nat → ChargeNo → ChargeNo
  | 0, c => c
  | fuel + 1, c => if held.contains c then freeNumber held fuel (c + 1) else c

/-- The charge number the next assignment gives (R85). -/
def State.nextChargeNo (s : State) : ChargeNo :=
  freeNumber (s.charges.map (·.number)) s.charges.length (s.store.chargeNo + 1)

/-- The counter takes the number assigned (R85). -/
def State.setChargeNo (s : State) (n : ChargeNo) : State :=
  { s with store := { s.store with chargeNo := n } }

/-- A CHARGE record (Table 53). -/
def chargeRecord (n : ChargeNo) (r : RecipeNo) (w : Nat) (dev : Int) (d : Disposition) : Record :=
  { number := 0, kind := .charge, press := none, recipe := r, zoneCount := 0, serial := none, chargeNo := n,
    weight := w, dev := dev, age := none, cureTime := none, permille := 0, peak := 0, retries := 0,
    disposition := d, flags := .clear, zones := [] }

/-- A charge entry's CHARGE record finalised into its reserved slot (R86, R88, R90, R92). -/
def State.recordCharge (s : State) (e : ChargeEntry) (d : Disposition) : State :=
  s.storeRecord e.slot (chargeRecord e.number e.recipe e.weight e.dev d)

/-- A charge accepted into the queue (R87, R88). -/
def State.acceptCharge (s : State) (slot : SlotNo) (r : RecipeNo) (w : Nat) (dev : Int) : State :=
  let n := s.nextChargeNo
  let s1 := (s.setChargeNo n).reserveSlot slot (.charge n)
  let e : ChargeEntry :=
    { number := n, recipe := r, weight := w, dev := dev, accepted := s.now,
      expiry := s.now + BitVec.ofNat 32 (1000 * s.tables.rt[r].outTime), slot := slot }
  ({ s1 with charges := s1.charges ++ [e] }).raise .chargeAccepted r.val n.toNat

/-- A CHARGE record made at the scale (R86). -/
def State.rejectCharge (s : State) (slot : SlotNo) (r : RecipeNo) (w : Nat) (dev : Int)
    (d : Disposition) : State :=
  let n := s.nextChargeNo
  let s1 := (s.setChargeNo n).reserveSlot slot .weigh
  (s1.storeRecord slot (chargeRecord n r w dev d)).raise .chargeRejected r.val d.code

/-- The outcome of a removal from STABLE (Table 49). -/
def State.judgeRemoval (s : State) (r : RecipeNo) (v : Verdict) (w : Nat) (dev : Int) : State :=
  match s.store.firstFree with
  | none => (s.raise .chargeUntraced r.val v.code).count 10
  | some slot =>
    match v with
    | .within => if s.charges.length < 8 then s.acceptCharge slot r w dev else s.rejectCharge slot r w dev .noQueue
    | .under => s.rejectCharge slot r w dev .rejectUnder
    | .over => s.rejectCharge slot r w dev .rejectOver

/-! ## Readings -/

/-- Test the window after a push: STABLE with its judgement, or LOADING (R78, R79, R80). -/
def State.weighJudge (s : State) : State :=
  match s.weigh.recipe with
  | none => { s with weigh := { s.weigh with state := .loading } }
  | some r =>
    if windowStable s.tables.sys s.weigh.window then
      let w := stableWeight s.weigh.window
      { s with weigh := { s.weigh with
          state := .stable (verdictOf s.tables.rt[r] w) w (deviationOf s.tables.rt[r] w) } }
    else { s with weigh := { s.weigh with state := .loading } }

/-- Push a reading into the window (R75). -/
def State.weighPush (s : State) (i : WeighItem) : State :=
  { s with weigh := { s.weigh with window := pushItem s.weigh.window s.tables.sys.weighM i } }

/-- A good WEIGH reading (R76, R78, R80, R81). -/
def State.weighReading (s : State) (raw : Nat) : State :=
  let w := weightOf s.tables.sys raw
  let i : WeighItem := { raw := raw, weight := w }
  let s1 := { s with weigh := { s.weigh with last := some w } }
  let light := w < s.tables.sys.weighEmpty
  match s.weigh.state with
  | .off => s1
  | .noSignal => if light then (s1.weighMove .empty).weighPush i else ((s1.weighMove .loading).weighPush i).weighJudge
  | .empty => if light then s1.weighPush i else ((s1.weighMove .loading).weighPush i).weighJudge
  | .loading => if light then (s1.count 9).weighMove .empty else (s1.weighPush i).weighJudge
  | .stable v sw dev =>
    if light then
      match s.weigh.recipe with
      | some r => (s1.judgeRemoval r v sw dev).weighMove .empty
      | none => s1.weighMove .empty
    else (s1.weighPush i).weighJudge

/-- The station's check at a millisecond event (R83). -/
def State.weighCheck (s : State) : State :=
  if (s.weigh.state == .empty || s.weigh.state.loaded) && !(s.targets[weighTarget].isFresh) then
    let s1 := s.weighMove .noSignal
    if s.weigh.state.loaded then s1.count 9 else s1
  else s

/-! ## The charge queue -/

/-- The queue without the first entry that satisfies `f`; the rest keep their order (R84). -/
def removeEntry (q : List ChargeEntry) (f : ChargeEntry → Bool) : List ChargeEntry := q.eraseP f

/-- The queued entry of a number. -/
def State.chargeOf (s : State) (n : ChargeNo) : Option ChargeEntry := s.charges.find? (fun e => e.number == n)

/-- The entry's expiry timer has reached its out-time (R88). -/
def ChargeEntry.expired (now : Time) (e : ChargeEntry) : Bool :=
  (e.expiry - e.accepted).toNat ≤ elapsed now e.accepted

/-- The expiry of a queued charge (R88). -/
def State.expireCharge (s : State) (e : ChargeEntry) : State :=
  let s1 := { s with charges := removeEntry s.charges (fun x => x.number == e.number) }
  (s1.recordCharge e .expired).raise .chargeExpired e.recipe.val e.number.toNat

end Sys2Proof.Machine
end

