-- ==== Sys2Proof/Machine/Classify.lean ====
section
/-!
DEFINITION. The frame classifier (02): looking readings up in the channel table and handing them to their
role targets and owners (R30 to R34), and the effect of an applied channel table write (R29, R45).
-/

namespace Sys2Proof.Machine

open Sys2Proof

/-- A reading of a SAMP frame: node channel, status and value (R31, Table 104). -/
structure Reading where
  channel : Nat
  status : Byte
  value : Nat
  deriving DecidableEq, Repr

/-- The readings of a payload: groups of four bytes (Table 104). -/
def parseReadings : List Byte → List Reading
  | c :: st :: hi :: lo :: rest =>
    { channel := c.toNat, status := st, value := ofBytes [hi, lo] } :: parseReadings rest
  | _ => []

/-- A SAMP frame is classified when its payload is a multiple of 4 from 4 to 32 bytes long (R30). -/
def classifiable (payload : List Byte) : Bool :=
  payload.length % 4 == 0 && 4 ≤ payload.length && payload.length ≤ 32

/-- The active channel table entry of a key (R31). -/
def Tables.lookup (t : Tables) (node : Addr) (channel : Nat) : Option (Fin 64) :=
  allCht.find? (fun i => t.cht[i].active && t.cht[i].node == node && t.cht[i].channel == channel)

/-- A sensor-fault reading: only a ZONE_TC target's zone record notes it (R32). -/
def State.sensorFault (s : State) (e : ChtEntry) : State :=
  match e.role with
  | .zoneTc =>
    if h : e.index < 16 then s.updZone ⟨e.index, h⟩ (fun q => { q with sensorFault := true }) else s
  | .none => s
  | .weigh => s
  | .platen => s
  | .ejectForce => s
  | .ejectPos => s

/-- The owner's action on a good reading (Table 21). -/
def State.ownerReading (s : State) (role : Role) (index value : Nat) : State :=
  match role with
  | .none => s
  | .zoneTc => if h : index < 16 then s.zoneReading ⟨index, h⟩ value else s
  | .weigh => s.weighReading value
  | .platen => if h : index < 4 then s.platenReading ⟨index, h⟩ value else s
  | .ejectPos => if h : index < 4 then s.posReading ⟨index, h⟩ value else s
  | .ejectForce => if h : index < 4 then s.forceReading ⟨index, h⟩ value else s

/-- A good reading is stored with the arrival time, makes the target FRESH, and is given to the owner
(R34, R35). -/
def State.handReading (s : State) (e : ChtEntry) (value : Nat) : State :=
  match e.target with
  | none => s
  | some t => (s.setTarget t (.fresh value s.now (10 * e.ageUnits))).ownerReading e.role e.index value

/-- One reading of a classified frame from a node (R31, R32). -/
def State.classifyReading (node : Addr) (s : State) (r : Reading) : State :=
  match s.tables.lookup node r.channel with
  | none => s
  | some i => if r.status.getLsbD 0 then s.sensorFault s.tables.cht[i] else s.handReading s.tables.cht[i] r.value

/-- Classify a good SAMP frame, its readings in frame order (R30, R33). -/
def State.classify (s : State) (f : Frame) : State :=
  if classifiable f.payload then (parseReadings f.payload).foldl (State.classifyReading f.srcAddr) s else s

/-! ## Applying a channel table write (R29, R45) -/

/-- A zone's temperature becomes absent when its target loses its reading (R45). -/
def State.forgetTemp (s : State) (t : TargetNo) : State :=
  if h : t.val < 16 then s.updZone ⟨t.val, h⟩ (fun q => { q with temp := none, range := .none }) else s

/-- A target loses its value: UNREFRESHED if still bound, UNBOUND otherwise (R29). -/
def State.resetTarget (s : State) (t : Option TargetNo) (x : Target) : State :=
  match t with
  | none => s
  | some t => (s.setTarget t x).forgetTemp t

/-- Apply a channel table write: the target bound before and the target bound after (R29); the weigh station
follows its target (R76). -/
def State.applyCht (s : State) (i : Fin 64) (e : ChtEntry) : State :=
  let old := s.tables.cht[i].target
  let s1 := { s with tables := { s.tables with cht := s.tables.cht.set i e } }
  let s2 := if old == e.target then s1 else s1.resetTarget old .unbound
  (s2.resetTarget e.target .unrefreshed).weighGate

end Sys2Proof.Machine
end

