-- ==== Sys2Proof/Machine/Regulator.lean ====
section
/-!
DEFINITION. Platen heat regulation (04): the PI computation (R61, R62), a zone's work at a control period
(R60, R63 to R67, with its cure increment, R50), the DUTY burst (R69) and the SYNC departure's count (R59).
-/

namespace Sys2Proof.Machine

open Sys2Proof

/-- The error of the PI computation, clamped (R61 step 1). -/
def piError (setpoint : Nat) (t : Int) : Int := clampInt (-500) 500 ((setpoint : Int) - t)

/-- The proportional term, floored toward minus infinity (R61 step 2). -/
def piProportional (kp : Nat) (e : Int) : Int := Int.fdiv ((kp : Int) * e) 16

/-- The candidate integrator (R61 step 3). -/
def piCandidate (ki : Nat) (e : Int) (i : Nat) : Nat := (clampInt 0 64000 ((i : Int) + ki * e)).toNat

/-- The candidate is discarded: the output is saturated in the error's direction (R62 step 5). -/
def piDiscards (u e : Int) (ceiling : Nat) : Bool := ((ceiling : Int) < u && 0 < e) || (u < 0 && e < 0)

/-- Duty and integrator of one PI computation (R61, R62). -/
def piStep (r : Recipe) (setpoint : Nat) (t : Int) (i : Nat) : Nat × Nat :=
  let e := piError setpoint t
  let p := piProportional r.kp e
  let i' := piCandidate r.ki e i
  let u := p + (i' / 64 : Nat)
  let kept := if piDiscards u e r.ceiling then i else i'
  ((clampInt 0 r.ceiling (p + (kept / 64 : Nat))).toNat, kept)

/-- A zone is fresh at a period: its target is FRESH and its temperature present (R60 step 2). -/
def State.zoneFresh (s : State) (z : ZoneNo) : Bool :=
  s.targets[zoneTarget z].isFresh && s.zones[z].temp.isSome

/-- The recipe of a zone's press, with the setpoint of the zone's position (R61). -/
def State.zoneRecipe (s : State) (z : ZoneNo) : Option (Recipe × Nat) :=
  match s.pressOf z, s.positionOf z with
  | some p, some k => (s.recipeOf p).map (fun r => (r, r.setpoints.getD k 0))
  | _, _ => none

/-- The PI computation of a fresh zone: duty, integrator, preset entry, REGULATING, stale count 0 (R62, R66). -/
def State.zonePi (s : State) (z : ZoneNo) : State :=
  match s.zoneRecipe z, s.zones[z].temp with
  | some (r, sp), some t =>
    let d := piStep r sp t s.zones[z].integ
    s.updZone z (fun q => { q with state := .regulating, integ := d.2, lastDuty := d.1, preset := d.1,
                                   staleCount := 0 })
  | _, _ => s

/-- A zone goes to or stays in HOLDING or FALLBACK with a stale count (Table 40). -/
def State.zoneHold (s : State) (z : ZoneNo) (count : Nat) (st : ZoneState) : State :=
  s.updZone z (fun q => { q with state := st, staleCount := count,
                                 preset := if st == .fallback then s.tables.zt[z].fallback else q.lastDuty })

/-- A stale zone in one of the regulated states (R63, R64, R65). -/
def State.zoneStale (s : State) (z : ZoneNo) : State :=
  let g := s.tables.zt[z].grace
  let count := min 255 (s.zones[z].staleCount + 1)
  match s.zones[z].state with
  | .regulating =>
    let s1 := s.raise .zoneStale z.val 0
    if 1 ≤ g then s1.zoneHold z 1 .holding else (s1.raise .zoneFallback z.val 0).zoneHold z 1 .fallback
  | .holding =>
    if count ≤ g then s.zoneHold z count .holding
    else (s.raise .zoneFallback z.val 0).zoneHold z count .fallback
  | .fallback => s.zoneHold z count .fallback
  | .unassigned => s
  | .idle => s

/-- A fresh zone in one of the regulated states: recovery first where it was stale (R61, R66). -/
def State.zoneRegulate (s : State) (z : ZoneNo) : State :=
  match s.zones[z].state with
  | .regulating => s.zonePi z
  | .holding => (s.raise .zoneRecovered z.val s.zones[z].staleCount).zonePi z
  | .fallback => (s.raise .zoneRecovered z.val s.zones[z].staleCount).zonePi z
  | .unassigned => s
  | .idle => s

/-- A zone's press is in cycle. -/
def State.zoneInCycle (s : State) (z : ZoneNo) : Bool :=
  match s.pressOf z with
  | some p => s.presses[p].state.inCycle
  | none => false

/-- The stale-seen flag of a stale zone whose press is in cycle (R67). -/
def State.markStale (s : State) (z : ZoneNo) : State :=
  if s.zoneInCycle z then s.updZone z (fun q => { q with staleSeen := true }) else s

/-- The cure rates of the recipe of a zone's press (R48). -/
def State.zoneRates (s : State) (z : ZoneNo) : List Nat :=
  match s.zoneRecipe z with
  | some (r, _) => if h : r.cureTable < 4 then s.tables.crt[r.cureTable] else []
  | none => []

/-- The cure increment of a fresh zone of a CURING press (R50). -/
def State.zoneCure (s : State) (z : ZoneNo) : State :=
  if s.zoneCuring z then s.updZone z (addCure (s.zoneRates z)) else s

/-- A zone's work at a control period (R60, R50). -/
def State.periodZone (s : State) (z : ZoneNo) : State :=
  match s.zones[z].state with
  | .unassigned => s.updZone z (fun q => { q with preset := 0 })
  | .idle => s.updZone z (fun q => { q with preset := 0 })
  | .regulating => if s.zoneFresh z then (s.zoneRegulate z).zoneCure z else (s.zoneStale z).markStale z
  | .holding => if s.zoneFresh z then (s.zoneRegulate z).zoneCure z else (s.zoneStale z).markStale z
  | .fallback => if s.zoneFresh z then (s.zoneRegulate z).zoneCure z else (s.zoneStale z).markStale z

/-! ## The DUTY burst (R69) -/

/-- The duty ceiling of a zone's press's recipe, if it has one. -/
def State.zoneCeiling (s : State) (z : ZoneNo) : Option Nat := (s.zoneRecipe z).map (·.1.ceiling)

/-- The duty a zone's burst entry carries (R69 step 2). -/
def State.burstDuty (s : State) (z : ZoneNo) : Nat :=
  match s.zones[z].state with
  | .regulating => min s.zones[z].preset ((s.zoneCeiling z).getD s.zones[z].preset)
  | .holding => min s.zones[z].preset ((s.zoneCeiling z).getD s.zones[z].preset)
  | .fallback => s.zones[z].preset
  | .unassigned => s.zones[z].preset
  | .idle => s.zones[z].preset

/-- The zones wired to a heater node, in ascending output channel order (R69 step 3). -/
def State.zonesOfNode (s : State) (a : Addr) : List ZoneNo :=
  let zs := allZones.filter (fun z => s.tables.zt[z].heater == a)
  (List.range 16).flatMap (fun c => zs.filter (fun z => s.tables.zt[z].channel == c))

/-- The DUTY frame of a heater node with these zones. -/
def State.dutyFrame (s : State) (a : Addr) (zs : List ZoneNo) : Frame :=
  buildFrame s.own a kindDuty
    (zs.flatMap (fun z => byteOf s.tables.zt[z].channel :: toBytes 2 (s.burstDuty z)))

/-- The burst, one frame per heater node in ascending address order (R69). -/
def State.buildBurst (s : State) : List Frame :=
  (allNodes.filter isNode).filterMap (fun a =>
    let zs := s.zonesOfNode a
    if zs.isEmpty then none else some (s.dutyFrame a zs))

/-- A SYNC departure in RUN makes the burst pending (R12, R16). -/
def State.makeBurst (s : State) : State :=
  if s.mode == .run then { s with line := { s.line with burst := s.buildBurst } } else s

/-- The departure of a SYNC, marked uncounted or not, is counted in RUN with the watch in SYNC_OK, unless it was
waiting in the DOWN buffer when the watch entered SYNC_LOST; the CTRLDIV-th counted departure makes a control
period due (R59). -/
def State.countDeparture (s : State) (uncounted : Bool) : State :=
  if s.mode == .run && !s.sync.lost && !uncounted then
    if s.periodCount + 1 == s.tables.sys.ctrldiv then { s with periodCount := 0, periodDue := true }
    else { s with periodCount := s.periodCount + 1 }
  else s

end Sys2Proof.Machine
end

