-- ==== Sys2Proof/Machine/Tables.lean ====
section
/-!
DEFINITION. Table writes (R26, R27, R40, R47, R56, R95, R97, R98, R151, R160): the checks in their order, the
taking of a write (R157, R159), the posted-write queue (R158) and the applies (R29, R44, R57, R58, R146).
-/

namespace Sys2Proof.Machine

open Sys2Proof

/-- The outcome of a table's own checks: a refusing result, or the checked write. -/
inductive Checked where
  | refuse (r : MgmtResult)
  | accept (w : Write)
  deriving DecidableEq, Repr

/-! ## Projected tables (R27, R56) -/

/-- The channel table once the posted writes are applied (R27). -/
def State.projectedCht (s : State) : Vector ChtEntry 64 :=
  s.agent.posted.foldl (fun t w => match w with | .cht i e => t.set i e | _ => t) s.tables.cht

/-- The zone table once the posted writes are applied (R56). -/
def State.projectedZt (s : State) : Vector ZtEntry 16 :=
  s.agent.posted.foldl (fun t w => match w with | .zt i e => t.set i e | _ => t) s.tables.zt

/-! ## Checks -/

/-- A role index is out of its role's range (R26 check 3). -/
def roleIndexBad (role : Role) (index : Nat) : Bool :=
  match role with
  | .none => false
  | .weigh => false
  | .zoneTc => 15 < index
  | .platen => 3 < index
  | .ejectForce => 3 < index
  | .ejectPos => 3 < index

/-- The role index stored: 0 for WEIGH and NONE (R26). -/
def roleIndexStored (role : Role) (index : Nat) : Nat :=
  match role with
  | .none => 0
  | .weigh => 0
  | .zoneTc => index
  | .platen => index
  | .ejectForce => index
  | .ejectPos => index

/-- In the projected table, another active entry has the written entry's key or role target. The other
entries do not collide among themselves, since each was checked when it was written (R27). -/
def chtCollides (t : Vector ChtEntry 64) (i : Fin 64) (e : ChtEntry) : Bool :=
  e.active && allCht.any (fun j => j != i && t[j].active &&
    ((t[j].node == e.node && t[j].channel == e.channel) || t[j].target == e.target))

/-- The checks of a CHT write (R26, R27). -/
def State.checkCht (s : State) (entry : Nat) (bs : List Byte) : Checked :=
  if h : entry < 64 then
    match Role.ofCode (field bs 2 1) with
    | none => .refuse .badArg
    | some role =>
      if roleIndexBad role (field bs 3 1) then .refuse .badArg
      else if 15 < field bs 1 1 then .refuse .badArg
      else if field bs 4 1 == 0 then .refuse .badArg
      else
        let e : ChtEntry := { node := fieldAddr bs 0, channel := field bs 1 1, role := role,
                              index := roleIndexStored role (field bs 3 1), ageUnits := field bs 4 1 }
        if chtCollides s.projectedCht ⟨entry, h⟩ e then .refuse .badArg else .accept (.cht ⟨entry, h⟩ e)
  else .refuse .badArg

/-- A breakpoint's temperature is outside -400 to 4000 (R40 check 2). -/
def Breakpoint.tempBad (b : Breakpoint) : Bool := b.temp < -400 || 4000 < b.temp

/-- The checks of a LIN write (R40). -/
def checkLin (entry : Nat) (bs : List Byte) : Checked :=
  if h : entry < 2 then
    let c := parseCurve bs
    if c.any Breakpoint.tempBad then .refuse .badArg
    else if curveValid c then .accept (.lin ⟨entry, h⟩ c)
    else .refuse .badArg
  else .refuse .badArg

/-- The checks of a CRT write (R47). -/
def checkCrt (entry : Nat) (bs : List Byte) : Checked :=
  if h : entry < 4 then
    let r := parseWords bs 0 24
    if r.any (fun x => 4095 < x) then .refuse .badArg else .accept (.crt ⟨entry, h⟩ r)
  else .refuse .badArg

/-- The ZT entry as written: a clamped offset and fallback duty are the ones stored (R56). -/
def parseZt (bs : List Byte) (curve : Fin 2) : ZtEntry :=
  { curve := curve, offset := clampInt (-100) 100 (fieldInt bs 1), heater := fieldAddr bs 3,
    channel := field bs 4 1, fallback := min 1000 (field bs 5 2), grace := field bs 7 1 }

/-- Two entries with nonzero heater addresses share a heater output (R56 check 7). -/
def ztOutputShared (t : Vector ZtEntry 16) (z : ZoneNo) (e : ZtEntry) : Bool :=
  e.heater != 0 && allZones.any (fun j => j != z && t[j].heater == e.heater && t[j].channel == e.channel)

/-- More than 8 entries name the written heater node (R56 check 8). -/
def ztNodeFull (t : Vector ZtEntry 16) (z : ZoneNo) (e : ZtEntry) : Bool :=
  e.heater != 0 && 8 ≤ (allZones.filter (fun j => j != z && t[j].heater == e.heater)).length

/-- The checks of a ZT write (R56). -/
def State.checkZt (s : State) (entry : Nat) (bs : List Byte) : Checked :=
  if h : entry < 16 then
    if hc : field bs 0 1 < 2 then
      let z : ZoneNo := ⟨entry, h⟩
      let e := parseZt bs ⟨field bs 0 1, hc⟩
      let t := s.projectedZt
      if 47 < e.heater.toNat then .refuse .badArg
      else if 15 < e.channel then .refuse .badArg
      else if 15 < e.grace then .refuse .badArg
      else if s.mode == .run && (e.heater != t[z].heater || e.channel != t[z].channel) then .refuse .badState
      else if ztOutputShared t z e then .refuse .badArg
      else if ztNodeFull t z e then .refuse .badArg
      else .accept (.zt z e)
    else .refuse .badArg
  else .refuse .badArg

/-- A press in cycle has this recipe assigned (R97 check 2). -/
def State.recipeInCycle (s : State) (r : RecipeNo) : Bool :=
  allPresses.any (fun p => s.presses[p].state.inCycle && s.presses[p].recipe == some r)

/-- This recipe is assigned to a press or is the weigh recipe (R97 check 4). -/
def State.recipeInUse (s : State) (r : RecipeNo) : Bool :=
  allPresses.any (fun p => s.presses[p].recipe == some r) || s.weigh.recipe == some r

/-- The four clamped fields of a recipe (R97). -/
def Recipe.clamped (r : Recipe) : Recipe :=
  { r with setpoints := r.setpoints.map (fun x => min 3500 x), ceiling := min 1000 r.ceiling,
           debounce := max 1 (min 8 r.debounce), retries := min 3 r.retries }

/-- A field of a recipe is out of range (R97 check 3). -/
def Recipe.fieldBad (r : Recipe) : Bool :=
  60000 < r.target || 60000 < r.tolLow || 60000 < r.tolHigh || r.outTime == 0 ||
    r.segLen < 10 || 5000 < r.segLen

/-- The checks of an RT write (R97). -/
def State.checkRt (s : State) (entry : Nat) (bs : List Byte) : Checked :=
  if h : entry < 8 then
    let i : RecipeNo := ⟨entry, h⟩
    let r := parseRecipe bs
    if s.recipeInCycle i then .refuse .badState
    else if r.fieldBad then .refuse .badArg
    else if !r.valid && s.recipeInUse i then .refuse .badState
    else .accept (.rt i r.clamped)
  else .refuse .badArg

/-- The zone bytes a PT write's count names; bytes beyond the count are not examined (R176). -/
def ptZoneBytes (bs : List Byte) : List Nat := ((bs.drop 1).take (field bs 0 1)).map (·.toNat)

/-- The zone list is refused: more than 6, above 15, or one zone twice (R95 check 3). -/
def ptZonesBad (bs : List Byte) : Bool :=
  6 < field bs 0 1 || (ptZoneBytes bs).any (fun z => 15 < z) || !decide (ptZoneBytes bs).Nodup

/-- The PT entry as written (Table 58). -/
def parsePt (bs : List Byte) : PtEntry :=
  { zones := (ptZoneBytes bs).map (Fin.ofNat 16), closedAt := field bs 7 2, openAt := field bs 9 2,
    outAt := field bs 11 2, homeAt := field bs 13 2, ejector := fieldAddr bs 15,
    haltCode := byteOf (field bs 16 1), marker := fieldAddr bs 17, guardUsed := fieldFlag bs 18,
    closeMs := field bs 19 2, openMs := field bs 21 2, ejectMs := field bs 23 2 }

/-- A timeout is outside 100 to 60,000 ms (R95 check 6). -/
def timeoutBad (ms : Nat) : Bool := ms < 100 || 60000 < ms

/-- A zone of the list stands in another PT entry's list (R95 check 7). -/
def State.ptZonesTaken (s : State) (p : PressNo) (zs : List ZoneNo) : Bool :=
  allPresses.any (fun q => q != p && zs.any (fun z => s.tables.pt[q].zones.contains z))

/-- The checks of a PT write (R95). -/
def State.checkPt (s : State) (entry : Nat) (bs : List Byte) : Checked :=
  if h : entry < 4 then
    let p : PressNo := ⟨entry, h⟩
    let e := parsePt bs
    if s.mode == .run && s.presses[p].state != .idle then .refuse .badState
    else if ptZonesBad bs then .refuse .badArg
    else if 47 < e.ejector.toNat || 47 < e.marker.toNat then .refuse .badArg
    else if !e.zones.isEmpty && e.ejector == 0 then .refuse .badArg
    else if timeoutBad e.closeMs || timeoutBad e.openMs || timeoutBad e.ejectMs then .refuse .badArg
    else if s.ptZonesTaken p e.zones then .refuse .badArg
    else .accept (.pt p e)
  else .refuse .badArg

/-- Another active gate entry has the same destination and command code (R98 check 5). -/
def State.gtCollides (s : State) (i : Fin 16) (e : GtEntry) : Bool :=
  allGt.any (fun j => j != i && s.tables.gt[j].cls != .none && s.tables.gt[j].dest == e.dest &&
    s.tables.gt[j].code == e.code)

/-- The checks of a GT write (R98). -/
def State.checkGt (s : State) (entry : Nat) (bs : List Byte) : Checked :=
  if h : entry < 16 then
    if s.mode == .run then .refuse .badState
    else
      match GateClass.ofCode (field bs 2 1) with
      | none => .refuse .badArg
      | some cls =>
        if hp : field bs 3 1 < 4 then
          if cls == .none then .accept (.gt ⟨entry, h⟩ .reset)
          else
            let e : GtEntry := { dest := fieldAddr bs 0, code := byteOf (field bs 1 1), cls := cls,
                                 press := ⟨field bs 3 1, hp⟩ }
            if e.dest == 0 || 47 < e.dest.toNat then .refuse .badArg
            else if s.gtCollides ⟨entry, h⟩ e then .refuse .badArg
            else .accept (.gt ⟨entry, h⟩ e)
        else .refuse .badArg
  else .refuse .badArg

/-- A SYS field is out of range where that is refused (Table 87, Table 46, R145). -/
def sysFieldBad (y : Sys) (requiredCode : Nat) : Bool :=
  y.ctrldiv < 1 || 64 < y.ctrldiv || y.silenceMs == 0 || y.syncMs < 5 || 1000 < y.syncMs ||
    y.censusMs < 1 || 50 < y.censusMs || 1 < requiredCode || y.weighGain == 0 || 1000 < y.weighBand ||
    y.weighEmpty == 0 || 60000 < y.weighEmpty || 47 < y.recorder.toNat ||
    (y.paceUnit != 1 && y.paceUnit != 4) || y.paceFactor == 0 || 64 < y.paceFactor || 63 < y.lowMark ||
    62 < y.noticeDest.toNat

/-- SYS as stored: the stability window M clamped (R73). -/
def Sys.clamped (y : Sys) : Sys := { y with weighM := max 4 (min 16 y.weighM) }

/-- The checks of a SYS write (R160). -/
def State.checkSys (s : State) (entry : Nat) (bs : List Byte) : Checked :=
  if entry != 0 then .refuse .badArg
  else if s.mode == .run then .refuse .badState
  else if sysFieldBad (parseSys bs) (field bs 5 1) then .refuse .badArg
  else .accept (.sys (parseSys bs).clamped)

/-- Another non-empty entry holds the same address (R151 check 4). -/
def State.accAddrTaken (s : State) (i : Fin 4) (a : Addr) : Bool :=
  allAcc.any (fun j => j != i && (s.agent.acc[j].any (fun x => x.addr == a)))

/-- With the written entry in place some non-empty entry has level WRITE (R151 check 5). -/
def State.accKeepsWriter (s : State) (i : Fin 4) (e : Option AccEntry) : Bool :=
  e.any (fun x => x.level == .write) ||
    allAcc.any (fun j => j != i && s.agent.acc[j].any (fun x => x.level == .write))

/-- The requester entry a write carries: the address byte 255 is an empty entry (R151, R176). -/
def State.parseAcc (s : State) (bs : List Byte) : Option (Option AccEntry) :=
  if field bs 0 1 == 255 then some none
  else if 62 < field bs 0 1 || fieldAddr bs 0 == s.own then none
  else (Level.ofCode (field bs 1 1)).map (fun l => some { addr := fieldAddr bs 0, level := l })

/-- The checks of an ACC write (R151). -/
def State.checkAcc (s : State) (entry : Nat) (bs : List Byte) : Checked :=
  if h : entry < 4 then
    if s.mode == .run then .refuse .badState
    else
      match s.parseAcc bs with
      | none => .refuse .badArg
      | some e =>
        if e.any (fun x => s.accAddrTaken ⟨entry, h⟩ x.addr) then .refuse .badArg
        else if !s.accKeepsWriter ⟨entry, h⟩ e then .refuse .badArg
        else .accept (.acc ⟨entry, h⟩ e)
  else .refuse .badArg

/-- The checks of a write to a table by its identifier; a read-only table or none is BADARG (R157). -/
def State.checkWrite (s : State) (table entry : Nat) (bs : List Byte) : Checked :=
  match table with
  | 0 => s.checkCht entry bs
  | 1 => checkLin entry bs
  | 2 => checkCrt entry bs
  | 3 => s.checkZt entry bs
  | 4 => s.checkRt entry bs
  | 5 => s.checkPt entry bs
  | 6 => s.checkGt entry bs
  | 7 => s.checkSys entry bs
  | 8 => s.checkAcc entry bs
  | _ => .refuse .badArg

/-! ## What a write is to -/

/-- The table identifier of a write. -/
def Write.table : Write → Nat
  | .cht _ _ => 0
  | .lin _ _ => 1
  | .crt _ _ => 2
  | .zt _ _ => 3
  | .rt _ _ => 4
  | .pt _ _ => 5
  | .gt _ _ => 6
  | .sys _ => 7
  | .acc _ _ => 8

/-- The entry number of a write. -/
def Write.entry : Write → Nat
  | .cht i _ => i.val
  | .lin i _ => i.val
  | .crt i _ => i.val
  | .zt i _ => i.val
  | .rt i _ => i.val
  | .pt i _ => i.val
  | .gt i _ => i.val
  | .sys _ => 0
  | .acc i _ => i.val

/-- A write to the table is posted in RUN (Table 86). -/
def Write.posts (w : Write) : Bool := w.table ≤ 3

/-- A posted write applied at once at the head of the queue: the CHT's (R158). -/
def Write.isCht (w : Write) : Bool := w.table == 0

/-- A posted write applied at the end of a control period: LIN, CRT or ZT (R158). -/
def Write.isHeat (w : Write) : Bool := 1 ≤ w.table && w.table ≤ 3

/-- Taking a write to the table clears the census pass latch (R24, R157). -/
def Write.touchesCensus (w : Write) : Bool := [0, 3, 5, 6, 7].contains w.table

/-! ## Applies -/

/-- Apply a curve write and reconvert the zones whose ZT entry names the curve (R44). -/
def State.applyLin (s : State) (i : Fin 2) (c : List Breakpoint) : State :=
  let s1 := { s with tables := { s.tables with lin := s.tables.lin.set i c } }
  (allZones.filter (fun z => s.tables.zt[z].curve == i)).foldl State.reconvert s1

/-- Apply a cure rate table write (R47). -/
def State.applyCrt (s : State) (i : Fin 4) (r : List Nat) : State :=
  { s with tables := { s.tables with crt := s.tables.crt.set i r } }

/-- Apply a zone table write; a change of curve or offset reconverts the zone (R44, R57). -/
def State.applyZt (s : State) (z : ZoneNo) (e : ZtEntry) : State :=
  let s1 := { s with tables := { s.tables with zt := s.tables.zt.set z e } }
  if s.tables.zt[z].curve != e.curve || s.tables.zt[z].offset != e.offset then s1.reconvert z else s1

/-- Apply a press table write, moving zones between UNASSIGNED and IDLE (R95, R58). -/
def State.applyPt (s : State) (p : PressNo) (e : PtEntry) : State :=
  let old := s.tables.pt[p].zones
  let s1 := { s with tables := { s.tables with pt := s.tables.pt.set p e } }
  let s2 := (old.filter (fun z => !e.zones.contains z)).foldl
    (fun s z => s.updZone z (fun q => q.cleared .unassigned)) s1
  (e.zones.filter (fun z => !old.contains z)).foldl
    (fun s z => s.updZone z (fun q => q.cleared .idle)) s2

/-- A stored record's obligation to channel 1 is waived (R146). -/
def Delivery.waive (d : Delivery) : Delivery := if d.owing1 then { d with owed1 := false } else d

/-- The number of records owed to channel 1 and not delivered on it. -/
def Store.owing (t : Store) : Nat := (allSlots.filter (fun i => (t.numberAt Delivery.owing1 i).isSome)).length

/-- Waive every outstanding obligation, freeing the released records, and stop the pace timer (R146). -/
def State.waive (s : State) : State :=
  { s with store := { s.store with slots := mapVector (Slot.deliver Delivery.waive) s.store.slots }, pace := none }

/-- A SYS write clears the recorder address (R146). -/
def State.clearsRecorder (s : State) (y : Sys) : Bool := s.tables.sys.recorder != 0 && y.recorder == 0

/-- Apply a SYS write (R160, R146). -/
def State.applySys (s : State) (y : Sys) : State :=
  let s1 := { s with tables := { s.tables with sys := y } }
  if s.clearsRecorder y then s1.waive else s1

/-- Apply an ACC write: a new or emptied address abandons the entry's long read and clears its mark (R151). -/
def State.applyAcc (s : State) (i : Fin 4) (e : Option AccEntry) : State :=
  let s1 := { s with agent := { s.agent with acc := s.agent.acc.set i e } }
  if s.agent.acc[i].map (·.addr) == e.map (·.addr) then s1
  else { s1 with agent := { s1.agent with contexts := s1.agent.contexts.set i none,
                                          marks := s1.agent.marks.set i none } }

/-- Apply a checked write (R157). -/
def State.applyWrite (s : State) : Write → State
  | .cht i e => s.applyCht i e
  | .lin i c => s.applyLin i c
  | .crt i r => s.applyCrt i r
  | .zt z e => s.applyZt z e
  | .rt i r => { s with tables := { s.tables with rt := s.tables.rt.set i r } }
  | .pt p e => s.applyPt p e
  | .gt i e => { s with tables := { s.tables with gt := s.tables.gt.set i e } }
  | .sys y => s.applySys y
  | .acc i e => s.applyAcc i e

/-! ## The posted-write queue (R158) -/

/-- One write of the queue has been applied: it leaves the head, and the reads waiting on it are
re-examined (R158). -/
def State.postedDone (s : State) : State :=
  { s with agent := { s.agent with
      posted := s.agent.posted.tail
      contexts := mapVector (fun c => c.map (fun x => { x with wait := x.wait - 1 })) s.agent.contexts } }

/-- Apply writes from the head while they satisfy `f` (R158). -/
def applyWhile (f : Write → Bool) : List Write → State → State
  | [], s => s
  | w :: ws, s => if f w then applyWhile f ws (s.applyWrite w).postedDone else s

/-- Apply the CHT writes at the head (R28). -/
def State.applyChtHead (s : State) : State := applyWhile Write.isCht s.agent.posted s

/-- The applies at the end of a control period: the run of LIN, ZT and CRT writes at the head, then the CHT
writes directly behind it (R40, R158). -/
def State.applyPeriodEnd (s : State) : State :=
  (applyWhile Write.isHeat s.agent.posted s).applyChtHead

/-- The whole queue applied at once, in order (R158). -/
def State.applyAllPosted (s : State) : State := applyWhile (fun _ => true) s.agent.posted s

/-! ## Taking a write (R157) -/

/-- Clear every requester's mark on an entry (R159). -/
def State.clearMarks (s : State) (table entry : Nat) : State :=
  { s with agent := { s.agent with
      marks := mapVector (fun m => if m == some { table := table, entry := entry } then none else m) s.agent.marks } }

/-- A write is taken: marks, and for some tables the census pass latch (R157). -/
def State.takeWrite (s : State) (w : Write) : State :=
  let s1 := s.clearMarks w.table w.entry
  if w.touchesCensus then s1.censusTouch else s1

/-- The data of a write's OK answer: the waived count of a SYS write, empty otherwise (Table 108). -/
def State.writeData (s : State) : Write → List Byte
  | .sys y => [if s.clearsRecorder y then byteOf s.store.owing else 0]
  | _ => []

/-- Append a write to the posted-write queue. -/
def State.post (s : State) (w : Write) : State :=
  { s with agent := { s.agent with posted := s.agent.posted ++ [w] } }

/-! ## The control period (R60) -/

/-- A control period: the zones in ascending order, the CURED tests in press order, the posted applies. -/
def State.runPeriod (s : State) : State :=
  let s1 := allZones.foldl State.periodZone { s with periodDue := false }
  (allPresses.foldl State.testCured s1).applyPeriodEnd

/-- Take a control period that is due, before an event that would come after it or forbid it (log 8). -/
def State.settlePeriod (s : State) : State := if s.periodDue then s.runPeriod else s

end Sys2Proof.Machine
end

