-- ==== Sys2Proof/Machine/Gate.lean ====
section
/-!
DEFINITION. The command gate (06): lookup (R99), decision (R100), CLOSE with its charge (R103, R89), OPEN in
CURING and CURED (R108 to R110) and EJECT (R111).
-/

namespace Sys2Proof.Machine

open Sys2Proof

/-! ## Lookup (R99) -/

/-- An entry whose class is not NONE is active (R98). -/
def GtEntry.active (e : GtEntry) : Bool := e.cls != .none

/-- The active gate entry of a key (R99). -/
def Tables.gateEntry (t : Tables) (dst : Addr) (code : Byte) : Option (Fin 16) :=
  allGt.find? (fun i => t.gt[i].active && t.gt[i].dest == dst && t.gt[i].code == code)

/-- The lowest-numbered active gate entry with a command code (R99). -/
def Tables.gateCode (t : Tables) (code : Byte) : Option (Fin 16) :=
  allGt.find? (fun i => t.gt[i].active && t.gt[i].code == code)

/-- The override flag: bit 0 of the second payload byte, clear where there is none (R99). -/
def overrideFlag (f : Frame) : Bool := (f.payload.getD 1 0).getLsbD 0

/-- A gated command is refused: dropped, noticed and counted (R100; the notice goes before a COUNTER_HALF of
the same event, as in Table 92, log 11). -/
def State.refuse (s : State) (p : PressNo) (c : RefusalCause) : State :=
  (s.raise .gateRefused p.val c.code).count 6

/-! ## CLOSE (R103) -/

/-- The release list holds a frame of the press (R13, R103). -/
def State.releasePending (s : State) (p : PressNo) : Bool := s.line.release.any (fun x => x.press == p)

/-- The oldest queued charge of a recipe (R89). -/
def State.chargeFor (s : State) (r : RecipeNo) : Option ChargeEntry := s.charges.find? (fun e => e.recipe == r)

/-- The cycle record opened at CLOSE (R103 step 2, R114). -/
def openCycle (zoneCount : Nat) (e : ChargeEntry) (age : Nat) : CycleRecord :=
  { zoneCount := zoneCount, chargeNo := e.number, weight := e.weight, dev := e.dev, age := age,
    cureTime := none, serial := none, retries := 0, guardOpened := false, closeTimeout := false,
    openTimeout := false, lineLoss := false }

/-- The press with a new cycle: slot, record, and everything an earlier cycle left cleared (R103 step 2,
R114). -/
def Press.beginCycle (q : Press) (slot : SlotNo) (c : CycleRecord) : Press :=
  { q with slot := some slot, cycle := some c, closed := none, dwellDone := false, override := false,
           stroke := 0, ejectStart := none, peak := 0, peakSeg := none, peakStroke := none,
           stuckCause := none }

/-- The cycle fields of a zone cleared at CLOSE (R103 step 3). -/
def ZoneRecord.newCycle (z : ZoneRecord) : ZoneRecord :=
  { z with cure := 0, cycMin := none, cycMax := none, underSeen := false, overSeen := false,
           cureHot := false, staleSeen := false, sensorFault := false, syncLost := false }

/-- The zones of a press cleared for a new cycle (R103 step 3). -/
def State.newCycleZones (s : State) (p : PressNo) : State :=
  s.tables.pt[p].zones.foldl (fun s z => s.updZone z ZoneRecord.newCycle) s

/-- The charge leaves the queue and its slot passes to the press (R89, R135). -/
def State.takeCharge (s : State) (p : PressNo) (e : ChargeEntry) : State :=
  ({ s with charges := removeEntry s.charges (fun x => x.recipe == e.recipe) }).setSlot e.slot
    (.reserved (.press p))

/-- The press acts on a CLOSE that has its charge (R103). -/
def State.closeWith (s : State) (p : PressNo) (f : Frame) (e : ChargeEntry) : State :=
  let c := openCycle s.tables.pt[p].zones.length e (secondsSince s.now e.accepted)
  let s1 := (s.takeCharge p e).updPress p (fun q => q.beginCycle e.slot c)
  let s2 := (s1.newCycleZones p).pushDown f
  (s2.updPress p (fun q => { q with closeT := s.timer s.tables.pt[p].closeMs })).setPressState p .closing

/-- A CLOSE decided in READY (R103). -/
def State.closeReady (s : State) (p : PressNo) (f : Frame) : State :=
  if s.guardOpen p then s.refuse p .guard
  else if s.sync.lost then s.refuse p .syncLost
  else if s.releasePending p then s.refuse p .pending
  else
    match (s.presses[p].recipe).bind s.chargeFor with
    | none => s.refuse p .noCharge
    | some e => s.closeWith p f e

/-! ## OPEN (R108 to R110) -/

/-- An OPEN is forwarded, the open timer starts and the press enters OPENING (R108, R110). -/
def State.forwardOpen (s : State) (p : PressNo) (f : Frame) : State :=
  ((s.pushDown f).updPress p (fun q => { q with openT := s.timer s.tables.pt[p].openMs })).setPressState p
    .opening

/-- An honoured override (R108). -/
def State.overrideOpen (s : State) (p : PressNo) (f : Frame) : State :=
  (s.updPress p (fun q => { q with hold := none, holdT := none, override := true, dwellT := none })).forwardOpen
    p f

/-- An OPEN meets the hold slot (R109). -/
def State.holdOpen (s : State) (p : PressNo) (f : Frame) : State :=
  match s.presses[p].hold with
  | some _ => s.count 7
  | none =>
    let limit := (s.recipeOf p).elim 0 (·.openHold)
    (s.updPress p (fun q =>
      { q with hold := some f, holdT := if limit == 0 then none else s.timer (1000 * limit) })).raise
      .openHeld p.val 0

/-- An override is honoured (R108). -/
def State.honours (s : State) (p : PressNo) (f : Frame) : Bool :=
  overrideFlag f && (s.recipeOf p).elim false (·.overrideOk)

/-- An OPEN decided in CURING (R108, R109). -/
def State.openCuring (s : State) (p : PressNo) (f : Frame) : State :=
  if s.honours p f then s.overrideOpen p f else s.holdOpen p f

/-! ## EJECT (R111) -/

/-- The retries used in the press's cycle. -/
def State.retriesUsed (s : State) (p : PressNo) : Nat := (s.presses[p].cycle).elim 0 (·.retries)

/-- An EJECT decided in OPENED (R111). -/
def State.ejectOpened (s : State) (p : PressNo) (f : Frame) : State :=
  if s.guardOpen p then s.refuse p .guard else s.startStroke p f

/-- An EJECT decided in STUCK (R111): the guard is checked before the retries. -/
def State.ejectStuck (s : State) (p : PressNo) (f : Frame) : State :=
  if s.guardOpen p then s.refuse p .guard
  else if s.retriesUsed p == (s.recipeOf p).elim 0 (·.retries) then s.refuse p .retries
  else (s.updCycle p (fun c => { c with retries := c.retries + 1 })).startStroke p f

/-! ## Decision (R100) -/

/-- A gated command by the press's state (Table 61). -/
def State.gateByState (s : State) (p : PressNo) (cls : GateClass) (f : Frame) : State :=
  match cls with
  | .none => s.pushDown f
  | .close => if s.presses[p].state == .ready then s.closeReady p f else s.refuse p .state
  | .open =>
    if s.presses[p].state == .curing then s.openCuring p f
    else if s.presses[p].state == .cured then s.forwardOpen p f
    else s.refuse p .state
  | .eject =>
    if s.presses[p].state == .opened then s.ejectOpened p f
    else if s.presses[p].state == .stuck then s.ejectStuck p f
    else s.refuse p .state

/-- The decision of a gated command (R100). -/
def State.gateDecide (s : State) (p : PressNo) (cls : GateClass) (f : Frame) : State :=
  if s.mode == .config then s.refuse p .config
  else if s.presses[p].state == .idle then s.refuse p .notReady
  else s.gateByState p cls f

/-- A CMD presented to the command gate, with a DOWN buffer place at hand (R99). -/
def State.presentCmd (s : State) (f : Frame) : State :=
  match f.payload with
  | [] => s.pushDown f
  | code :: _ =>
    if f.dstAddr == 63 then
      match s.tables.gateCode code with
      | some i => s.refuse s.tables.gt[i].press .broadcast
      | none => s.pushDown f
    else
      match s.tables.gateEntry f.dstAddr code with
      | some i => s.gateDecide s.tables.gt[i].press s.tables.gt[i].cls f
      | none => s.pushDown f

end Sys2Proof.Machine
end

