-- ==== Sys2Proof/Machine/Arbiter.lean ====
section
/-!
DEFINITION. The two out-halves (01): the D-out arbiter (R10, R11), the U-out arbiter with the block-drain hold
(R14, R15), the grants of the notice queue and the drain channels (R168, R141, R144), and what the end of a
transmission brings about (R16, R22, R125, R142, R145).
-/

namespace Sys2Proof.Machine

open Sys2Proof

/-! ## D-out (Table 11) -/

/-- D-out begins to send a frame of a source. -/
def State.sendD (s : State) (f : Frame) (src : DSource) : State :=
  { s with line := { s.line with dOut := some { frame := f, source := src } } }

/-- The frame of a READY halt. -/
def Halt.ready? : Halt → Option Frame
  | .none => Option.none
  | .waiting _ => Option.none
  | .ready f => some f

/-- The lowest press whose halt item is READY (R11). -/
def State.readyHalt (s : State) : Option PressNo :=
  allPresses.find? (fun p => (s.presses[p].halt.ready?).isSome)

/-- Channel 1's next record, when the channel is ready (R144). -/
def State.ready1 (s : State) : Option SlotNo :=
  if s.tables.sys.recorder != 0 && s.pace.isNone then s.store.next1 else none

/-- A HIST frame of a record to an address (R141, R144). -/
def State.histFrame (s : State) (dst : Addr) (r : Record) : Frame :=
  buildFrame s.own dst kindHist (recordBytes r)

/-- A grant to drain channel 1 (R144). -/
def State.grant1 (s : State) (i : SlotNo) : State :=
  match s.store.slots[i].record? with
  | none => s
  | some r =>
    (s.setSlot i (Slot.deliver (fun d => { d with delivered1 := true }) s.store.slots[i])).sendD
      (s.histFrame s.tables.sys.recorder r) .drain1

/-- A grant to the DOWN buffer or to channel 1 (ranks 5 and 6). The frame keeps its place in the buffer (R8). -/
def State.grantLow (s : State) : State :=
  match s.line.down with
  | d :: _ => s.sendD d.frame .down
  | [] =>
    match s.ready1 with
    | some i => s.grant1 i
    | none => s

/-- A grant to the census probe, or to a lower rank (rank 4; R22). -/
def State.grantProbe (s : State) : State :=
  match s.census.phase, s.census.todo with
  | .pending, a :: _ =>
    ({ s with census := { s.census with phase := .sending } }).sendD (buildFrame s.own a kindCens []) .probe
  | _, _ => s.grantLow

/-- A grant to the burst, the release list or a lower rank (ranks 2 and 3). -/
def State.grantPending (s : State) : State :=
  match s.line.burst, s.line.release with
  | f :: rest, _ => ({ s with line := { s.line with burst := rest } }).sendD f .burst
  | [], x :: rest => ({ s with line := { s.line with release := rest } }).sendD x.frame .release
  | [], [] => s.grantProbe

/-- The D-out grant at a boundary; with no source ready D-out stays IDLE (R10, R11). -/
def State.grantD (s : State) : State :=
  match s.readyHalt with
  | some p =>
    match s.presses[p].halt.ready? with
    | some f => (s.updPress p (fun q => { q with halt := .none })).sendD f .halt
    | none => s
  | none => s.grantPending

/-! ## U-out (Tables 12 and 13) -/

/-- U-out begins to send a frame of a source. -/
def State.sendU (s : State) (f : Frame) (src : USource) : State :=
  { s with line := { s.line with uOut := some { frame := f, source := src } } }

/-- Set the block-drain hold (R15). -/
def State.setHold (s : State) (h : DrainHold) : State := { s with line := { s.line with hold := h } }

/-- Channel 0's next record, when a run is active with records left to deliver (R141). -/
def State.ready0 (s : State) : Option SlotNo :=
  if s.drain0.running && 0 < s.drain0.remaining then s.store.next0 else none

/-- A slot's record is marked delivered on channel 0 (R141). -/
def Slot.mark0 : Slot → Slot
  | .free => .free
  | .reserved h => .reserved h
  | .stored r d => .stored r { d with delivered0 := true }

/-- A grant to drain channel 0 (R141). -/
def State.grant0 (s : State) (i : SlotNo) : State :=
  match s.store.slots[i].record?, s.drain0.dest with
  | some r, some a =>
    let s1 := s.setSlot i s.store.slots[i].mark0
    { s1 with drain0 := { s1.drain0 with remaining := s1.drain0.remaining - 1,
                                         delivered := s1.drain0.delivered + 1 } }.sendU (s.histFrame a r) .drain0
  | _, _ => s

/-- The payload of a NOTE frame (Table 104). -/
def notePayload (n : Notice) : List Byte :=
  [byteOf n.kind.code, n.subject] ++ toBytes 2 n.detail.toNat ++ [byteOf n.count] ++ toBytes 4 n.first.toNat

/-- A grant to the notice queue: the head is built into a NOTE and leaves the queue (R168). -/
def State.grantNote (s : State) (n : Notice) : State :=
  (s.updNotices (fun u => { u with queue := u.queue.tail })).sendU
    (buildFrame s.own s.tables.sys.noticeDest kindNote (notePayload n)) .notice

/-- The first grant of a BLOCK run puts the hold in force (Table 13). -/
def State.holdAfterRank4 (s : State) : DrainHold :=
  if s.drain0.mode == some .block then .held else s.line.hold

/-- The grant by rank (R14). The UP and response heads keep their places until they are sent (R8, R153). -/
def State.grantRanked (s : State) : State :=
  match s.line.up, s.agent.responses, s.notices.queue, s.ready0 with
  | f :: _, _, _, _ => s.sendU f .up
  | [], f :: _, _, _ => s.sendU f .response
  | [], [], n :: _, _ => s.grantNote n
  | [], [], [], some i => (s.grant0 i).setHold s.holdAfterRank4
  | [], [], [], none => s

/-- The grant with the hold HELD (Table 13). -/
def State.grantHeld (s : State) : State :=
  match s.line.up, s.ready0 with
  | f :: rest, r =>
    if 6 ≤ (f :: rest).length then (s.sendU f .up).setHold .yielded
    else
      match r with
      | some i => s.grant0 i
      | none => s.grantRanked
  | [], some i => s.grant0 i
  | [], none => s.grantRanked

/-- The grant with the hold YIELDED (Table 13). -/
def State.grantYielded (s : State) : State :=
  match s.line.up, s.ready0 with
  | f :: _, _ => s.sendU f .up
  | [], some i => (s.grant0 i).setHold .held
  | [], none => s.grantRanked

/-- The run has records left to deliver and the store holds none for it (R142). -/
def State.runDry (s : State) : Bool :=
  s.drain0.running && (0 < s.drain0.remaining) && s.store.next0.isNone

/-- A dry run ends at the boundary, before the grant (R142). -/
def State.endIfDry (s : State) : State := if s.runDry then s.endRun .dry else s

/-- The U-out grant at a boundary (R14, R15, R142). -/
def State.grantU (s : State) : State :=
  match s.endIfDry.line.hold with
  | .off => s.endIfDry.grantRanked
  | .held => s.endIfDry.grantHeld
  | .yielded => s.endIfDry.grantYielded

/-! ## Boundaries -/

/-- D-out, if IDLE, is at a boundary (R10). -/
def State.kickD (s : State) : State := if s.line.dOut.isNone then s.grantD else s

/-- U-out, if IDLE, is at a boundary (R10). -/
def State.kickU (s : State) : State := if s.line.uOut.isNone then s.grantU else s

/-- The boundaries at the end of an event: D-out's, then U-out's (R10; log 10). -/
def State.kick (s : State) : State := s.kickD.kickU

/-! ## The end of a transmission -/

/-- A WAITING halt becomes READY (R125). -/
def Halt.release : Halt → Halt
  | .none => .none
  | .waiting f => .ready f
  | .ready f => .ready f

/-- The halt that waits for a departing frame becomes READY (R125). -/
def State.releaseHalt (s : State) (p : Option PressNo) : State :=
  match p with
  | none => s
  | some p => s.updPress p (fun q => { q with halt := q.halt.release })

/-- The departure of a SYNC: burst, then the count towards the control period (R16, R60). A period of an
earlier departure not yet taken is taken first (log 8). -/
def State.syncDeparture (s : State) (uncounted : Bool) : State := s.settlePeriod.makeBurst.countDeparture uncounted

/-- The head of the DOWN buffer has been sent (R8, R16, R125). -/
def State.downSent (s : State) : State :=
  match s.line.down with
  | [] => s
  | d :: rest =>
    let s1 := ({ s with line := { s.line with down := rest } }).releaseHalt d.awaitedBy
    if d.frame.kind == kindSync then s1.syncDeparture d.uncounted else s1

/-- A probe has been sent: its window opens, unless the census has been abandoned (R22, R24). -/
def State.probeSent (s : State) : State :=
  if s.census.phase == .sending then
    { s with census := { s.census with
        phase := .window { start := s.now, dur := s.tables.sys.censusMs } } }
  else s

/-- A channel 1 frame has been sent: the pace timer starts, and the caught-up latch is set where no next
record is left (R144, R145). -/
def State.recordSent (s : State) : State :=
  let s1 := { s with pace := s.timer (s.tables.sys.paceUnit * s.tables.sys.paceFactor) }
  if s1.store.next1.isNone then s1.updLatches (fun l => { l with caughtUp := true }) else s1

/-- What the end of a transmission on D-out brings about (R10). -/
def State.dSent (s : State) : DSource → State
  | .halt => s
  | .burst => s
  | .release => s
  | .probe => s.probeSent
  | .down => s.downSent
  | .drain1 => s.recordSent

/-- What the end of a transmission on U-out brings about (R8, R153, R142). -/
def State.uSent (s : State) : USource → State
  | .up => { s with line := { s.line with up := s.line.up.tail } }
  | .response => { s with agent := { s.agent with responses := s.agent.responses.tail } }
  | .notice => s
  | .drain0 => if s.drain0.running && s.drain0.remaining == 0 then s.endRun .count else s

end Sys2Proof.Machine
end

