-- ==== Sys2Proof/Machine/Readout.lean ====
section
/-!
DEFINITION. What management reads: the entries of the tables of Table 109 as the response frame carries them
(R37, R53, R72, R93, R117, R131, R149, R177, R178) and the STATUS block (R170, Table 110).
-/

namespace Sys2Proof.Machine

open Sys2Proof

/-- The remaining time of a timer, 0 where it does not run (R117, R178). -/
def remainingBytes (now : Time) : Option Timer → List Byte
  | none => toBytes 4 0
  | some t => toBytes 4 (BitVec.ofNat 32 t.dur - (now - t.start)).toNat

/-- The census entry: state, verdict, expected count, missing count, missing addresses (R177; absent
before a result, log 17). -/
def State.censusEntry (s : State) : List Byte :=
  match s.census.verdict with
  | none => [byteOf s.census.state.code, 255, 255, 255]
  | some v =>
    [byteOf s.census.state.code, byteOf v.code, byteOf s.census.expected, byteOf s.census.missing.length] ++
      s.census.missing.map addrByte

/-- A target table entry (R37). -/
def State.targetEntry (s : State) (t : TargetNo) : List Byte :=
  let b := optByte ((s.tables.binder t).map (·.val))
  match s.targets[t] with
  | .unbound => [byteOf s.targets[t].code, 255] ++ optBytes2 none ++ optStamp none ++ [255, 255, 255, 255]
  | .unrefreshed => [byteOf s.targets[t].code, b] ++ optBytes2 none ++ optStamp none ++ [255, 255, 255, 255]
  | .fresh v a _ => [byteOf s.targets[t].code, b] ++ toBytes 2 v ++ toBytes 4 a.toNat ++ toBytes 4 (elapsed s.now a)
  | .stale v a => [byteOf s.targets[t].code, b] ++ toBytes 2 v ++ toBytes 4 a.toNat ++ toBytes 4 (elapsed s.now a)

/-- A zone state table entry: the fields of R72, then those of R53 (log 18). -/
def State.zoneEntry (s : State) (z : ZoneNo) : List Byte :=
  let q := s.zones[z]
  [byteOf q.state.code, optByte ((s.pressOf z).map (·.val)), optByte (s.positionOf z)] ++
    toBytes 2 q.integ ++ toBytes 2 q.lastDuty ++ toBytes 2 q.preset ++
    [byteOf q.staleCount, zoneCycleFlags q] ++ optBytesInt q.temp ++ [byteOf q.range.code] ++
    optBytesInt q.cycMin ++ optBytesInt q.cycMax ++ [zoneRangeFlags q] ++ toBytes 3 q.cure ++
    [flagByte q.cureHot]

/-- The verdict, stable weight and deviation, absent outside STABLE (R93). -/
def WeighState.judgement : WeighState → List Byte
  | .off => [255] ++ optBytes2 none ++ optBytesInt none
  | .noSignal => [255] ++ optBytes2 none ++ optBytesInt none
  | .empty => [255] ++ optBytes2 none ++ optBytesInt none
  | .loading => [255] ++ optBytes2 none ++ optBytesInt none
  | .stable v w d => [byteOf v.code] ++ toBytes 2 w ++ toBytesInt d

/-- The weigh state table's entry (R93). -/
def State.weighEntry (s : State) : List Byte :=
  [byteOf s.weigh.state.code, optByte (s.weigh.recipe.map (·.val))] ++ optBytes2 s.weigh.last ++
    [byteOf s.weigh.window.length] ++
    (if s.weigh.window.isEmpty then optBytes2 none else toBytes 2 (windowSpread s.weigh.window)) ++
    s.weigh.state.judgement

/-- A charge queue table entry; an empty position is 255 in every byte (R93, R178). -/
def State.chargeEntryBytes (s : State) (i : Nat) : List Byte :=
  match s.charges[i]? with
  | none => List.replicate 20 255
  | some e =>
    toBytes 2 e.number.toNat ++ [byteOf e.recipe.val] ++ toBytes 2 e.weight ++ toBytesInt e.dev ++
      toBytes 4 e.accepted.toNat ++ toBytes 4 e.expiry.toNat ++ [byteOf e.slot.val] ++
      toBytes 4 (e.expiry - s.now).toNat

/-- The fixed part of an absent cycle record, without its record number: every field absent (R178, log 16). -/
def absentCycle : List Byte :=
  [255, 255, 255, 255] ++ toBytes 4 0 ++ [255, 255, 255, 255] ++ toBytesInt (-32768) ++
    [255, 255, 255, 255, 255, 255, 255, 255] ++ [255, 0]

/-- The fixed part of the cycle record under construction, without its record number: what is filled so far,
the rest absent (R114, R117, log 16). -/
def State.cycleBytes (s : State) (p : PressNo) : List Byte :=
  match s.presses[p].cycle, s.presses[p].recipe with
  | some c, some r =>
    [byteOf RecordKind.part.code, byteOf p.val, byteOf r.val, byteOf c.zoneCount] ++
      toBytes 4 ((c.serial.getD 0).toNat) ++ toBytes 2 c.chargeNo.toNat ++ toBytes 2 c.weight ++
      toBytesInt c.dev ++ toBytes 2 c.age ++ optBytes2 c.cureTime ++ optBytes2 none ++
      toBytes 2 s.presses[p].peak ++
      [byteOf (c.retries * 16 + 15), recordFlagsByte c.serial.isSome (finalFlags c [])]
  | _, _ => absentCycle

/-- The current segment of a stroke, absent outside EJECTING (R131). -/
def State.currentSegment (s : State) (p : PressNo) : Option Nat :=
  match s.presses[p].state == .ejecting, s.recipeOf p, s.presses[p].ejectStart with
  | true, some r, some t0 => some (segmentAt s.now t0 r.segLen)
  | _, _, _ => none

/-- A press state table entry (R117, R131, R177). -/
def State.pressEntry (s : State) (p : PressNo) : List Byte :=
  let q := s.presses[p]
  [byteOf q.state.code, optByte (q.recipe.map (·.val)), optByte (q.slot.map (·.val)),
    packFlags [q.dwellDone, q.override, q.hold.isSome, s.guard[p].accepted.isOpen,
      s.tables.pt[p].guardUsed, s.guardOpen p]] ++
    optStamp q.closed ++ remainingBytes s.now q.dwellT ++ remainingBytes s.now q.holdT ++
    remainingBytes s.now (q.closeT.or (q.openT.or q.ejectT)) ++ s.cycleBytes p ++
    [byteOf q.stroke] ++ optStamp q.ejectStart ++ [optByte (s.currentSegment p), byteOf q.debounce] ++
    toBytes 2 q.peak ++ [optByte q.peakSeg, optByte q.peakStroke, optByte (q.stuckCause.map (·.code)),
      byteOf q.halt.code]

/-- A store table entry (R149, R177). -/
def storeEntry : Slot → List Byte
  | .free => [0, 0, 255, 255, 255, 255, 255, 255, 255, 255, 255, 255, 255, 0]
  | .reserved h =>
    [1] ++
      (match h with
        | .charge n => [1] ++ toBytes 2 n.toNat
        | .press p => [2] ++ toBytes 2 p.val
        | .weigh => [0, 255, 255]) ++
      [255, 255, 255, 255, 255, 255, 255, 255, 255, 0]
  | .stored r d =>
    [2, 0, 255, 255] ++ toBytes 4 r.number.toNat ++
      [byteOf r.kind.code, optByte (r.press.map (·.val)), byteOf r.disposition.code] ++
      toBytes 2 r.chargeNo.toNat ++ [deliveryFlags d]

/-- A linearisation curve as read, with its validity last (R53, R177). -/
def linEntry (c : List Breakpoint) : List Byte := curveBytes c ++ [flagByte (curveValid c)]

/-- An entry of a table as it is reported, by table identifier and entry number (R156). -/
def State.entryBytes (s : State) (table i : Nat) : List Byte :=
  match table with
  | 0 => if h : i < 64 then chtBytes s.tables.cht[i] else []
  | 1 => if h : i < 2 then linEntry s.tables.lin[i] else []
  | 2 => if h : i < 4 then wordsBytes s.tables.crt[i] else []
  | 3 => if h : i < 16 then ztBytes s.tables.zt[i] else []
  | 4 => if h : i < 8 then recipeBytes s.tables.rt[i] else []
  | 5 => if h : i < 4 then ptBytes s.tables.pt[i] else []
  | 6 => if h : i < 16 then gtBytes s.tables.gt[i] else []
  | 7 => sysBytes s.tables.sys
  | 8 => if h : i < 4 then accBytes s.agent.acc[i] else []
  | 9 => s.censusEntry
  | 10 => if h : i < 29 then s.targetEntry ⟨i, h⟩ else []
  | 11 => if h : i < 16 then s.zoneEntry ⟨i, h⟩ else []
  | 12 => s.weighEntry
  | 13 => s.chargeEntryBytes i
  | 14 => if h : i < 4 then s.pressEntry ⟨i, h⟩ else []
  | 15 => if h : i < 64 then storeEntry s.store.slots[i] else []
  | _ => []

/-- `count` whole entries from `first` on, in entry order. -/
def State.entriesBytes (s : State) (table first count : Nat) : List Byte :=
  (List.range count).flatMap (fun k => s.entryBytes table (first + k))

/-! ## STATUS (R170) -/

/-- A next record: its presence byte and number (Table 110, R178). -/
def nextBytes (t : Store) (f : Delivery → Bool) (n : Option SlotNo) : List Byte :=
  match n.bind (t.numberAt f) with
  | some a => [1] ++ toBytes 4 a.toNat
  | none => [0] ++ toBytes 4 0

/-- The channel 0 items of STATUS (Table 110, offset 25). -/
def State.drain0Status (s : State) : List Byte :=
  [flagByte s.drain0.running, optByte (s.drain0.mode.map (·.code)), optByte (s.drain0.dest.map (·.toNat)),
    byteOf s.drain0.remaining, byteOf s.drain0.delivered] ++
    nextBytes s.store Delivery.undelivered0 s.store.next0

/-- The channel 1 items of STATUS (Table 110, offset 35). -/
def State.drain1Status (s : State) : List Byte :=
  [flagByte (s.tables.sys.recorder != 0), flagByte s.pace.isSome, byteOf s.store.owing] ++
    nextBytes s.store Delivery.owing1 s.store.next1

/-- The STATUS data, 50 bytes (Table 110). -/
def State.statusData (s : State) : List Byte :=
  [byteOf s.mode.code] ++ allPresses.map (fun p => byteOf s.presses[p].state.code) ++
    allZones.map (fun z => byteOf s.zones[z].state.code) ++
    [byteOf s.charges.length, byteOf (s.store.countSlots Slot.isFree),
      byteOf (s.store.countSlots Slot.isReserved), byteOf (s.store.countSlots Slot.isStored)] ++
    s.drain0Status ++ s.drain1Status ++
    [flagByte s.loss.lost, causesByte s.loss, flagByte s.sync.lost, byteOf s.census.state.code,
      flagByte s.census.passLatch, byteOf s.notices.queue.length, latchesByte s.notices.latches]

end Sys2Proof.Machine
end

