-- ==== Sys2Proof/Machine/Operations.lean ====
section
/-!
DEFINITION. The management operations of Table 85, each as the state after it and its answer: the result and
data of a short response, or the opening of a long read (R152 to R154).
-/

namespace Sys2Proof.Machine

open Sys2Proof

/-- The answer of an operation: a short response, or a long read whose parts follow (R153, R154). -/
inductive Answer where
  | short (r : MgmtResult) (data : List Byte)
  | long
  deriving DecidableEq, Repr

/-- A refusal: nothing changes and the data is empty (R150, R152). -/
def State.refused (s : State) (r : MgmtResult) : State × Answer := (s, .short r [])

/-- An OK answer with its data. -/
def State.okWith (s : State) (data : List Byte) : State × Answer := (s, .short .ok data)

/-! ## Identity, status and counters -/

/-- IDENT (R161). -/
def State.doIdent (s : State) (level : Level) : State × Answer :=
  s.okWith (toBytes 2 0x7A16 ++ [1, addrByte s.own, byteOf s.mode.code, byteOf level.code])

/-- STATUS: report, then clear the latches (R170, R171). -/
def State.doStatus (s : State) : State × Answer := (s.updLatches (fun _ => .clear)).okWith s.statusData

/-- COUNTERS: report, then clear the counters and their half-mark flags (R173). -/
def State.doCounters (s : State) : State × Answer :=
  (s.updNotices (fun n => { n with counters := Vector.replicate 12 0, half := Vector.replicate 12 false })).okWith
    (s.notices.counters.toList.map byteOf)

/-- NOTICE ENABLE (R169). -/
def State.doNoticeEnable (s : State) (mask : BitVec 24) : State × Answer :=
  (s.updNotices (fun n => { n with mask := mask })).okWith (toBytes 3 s.notices.mask.toNat)

/-! ## Reads (R154, R156, R159) -/

/-- A read of this table waits for a posted write (the last column of Table 86). -/
def readWaitsOn (table : Nat) (w : Write) : Bool :=
  match table with
  | 0 => w.table == 0
  | 1 => w.table == 1
  | 2 => w.table == 2
  | 3 => w.table == 3
  | 10 => w.table == 0
  | 11 => w.table == 1 || w.table == 3
  | _ => false

/-- How many writes from the head must be applied before a read of the table is ready: the place of the last
one it waits for (R156). -/
def waitCount (table : Nat) : List Write → Nat
  | [] => 0
  | w :: ws =>
    if 0 < waitCount table ws then waitCount table ws + 1
    else if readWaitsOn table w then 1 else 0

/-- Open requester `i`'s long-read context (R154). -/
def State.openRead (s : State) (i : Fin 4) (c : Context) : State :=
  { s with agent := { s.agent with contexts := s.agent.contexts.set i (some c) } }

/-- A read of table entries, short or long; BUSY if it would be a long read while one is open (R154, R156). -/
def State.readEntries (s : State) (i : Fin 4) (tag op : Byte) (table first count : Nat) : State × Answer :=
  let wait := waitCount table s.agent.posted
  if wait == 0 && count ≤ entriesPerPart table then s.okWith (s.entriesBytes table first count)
  else if s.agent.contexts[i].isSome then s.refused .busy
  else
    (s.openRead i { tag := tag, op := op, what := .table table first count, part := 0, wait := wait }, .long)

/-- TABLE READ (R156). -/
def State.doTableRead (s : State) (i : Fin 4) (tag : Byte) (table first count : Nat) : State × Answer :=
  if tableEntries table == 0 || count == 0 || tableEntries table < first + count then s.refused .badArg
  else s.readEntries i tag 5 table first count

/-- Set requester `i`'s mark (R159). -/
def State.setMark (s : State) (i : Fin 4) (m : Mark) : State :=
  { s with agent := { s.agent with marks := s.agent.marks.set i (some m) } }

/-- An answer that is not BUSY: the read is accepted. -/
def Answer.accepted : Answer → Bool
  | .short r _ => r == .ok
  | .long => true

/-- TABLE READ MARK: the mark is set when the read is accepted (R156, R159). -/
def State.doTableReadMark (s : State) (i : Fin 4) (tag : Byte) (table entry : Nat) : State × Answer :=
  if !writableTable table || tableEntries table ≤ entry then s.refused .badArg
  else
    let r := s.readEntries i tag 6 table entry 1
    if r.2.accepted then (r.1.setMark i { table := table, entry := entry }, r.2) else r

/-- RECORD READ: a long read of two parts (R147, R154). -/
def State.doRecordRead (s : State) (i : Fin 4) (tag : Byte) (n : Number) : State × Answer :=
  if s.agent.contexts[i].isSome then s.refused .busy
  else (s.openRead i { tag := tag, op := 22, what := .record n, part := 0, wait := 0 }, .long)

/-! ## Writes (R157, R159) -/

/-- A checked write in RUN to a posted table: QFULL, or taken and posted; a CHT write at the head of the queue
is applied at once (R28, R157, R158). -/
def State.postWrite (s : State) (w : Write) : State × Answer :=
  if 4 ≤ s.agent.posted.length then s.refused .qFull
  else (((s.takeWrite w).post w).applyChtHead, .short .posted [])

/-- TABLE WRITE (R157). -/
def State.doTableWrite (s : State) (table entry : Nat) (content : List Byte) : State × Answer :=
  match s.checkWrite table entry content with
  | .refuse r => s.refused r
  | .accept w =>
    if s.mode == .run && w.posts then s.postWrite w
    else ((s.takeWrite w).applyWrite w).okWith (s.writeData w)

/-- TABLE WRITE IF MARKED (R159). -/
def State.doTableWriteIfMarked (s : State) (i : Fin 4) (table entry : Nat) (content : List Byte) :
    State × Answer :=
  if s.agent.marks[i] == some { table := table, entry := entry } then s.doTableWrite table entry content
  else s.refused .lost

/-! ## Items the tables must hold (R102, R162) -/

/-- An item of a BADTABLE check: whether it is there, its code and its zone or press (Table 108). -/
structure Item where
  present : Bool
  code : Nat
  number : Nat
  deriving DecidableEq, Repr

/-- A CHT entry binds the target. -/
def State.bound (s : State) (t : TargetNo) : Bool := (s.tables.binder t).isSome

/-- The ZONE_TC item of a zone. -/
def State.itemTc (s : State) (z : ZoneNo) : Item := { present := s.bound (zoneTarget z), code := 1, number := z.val }

/-- The heater item of a zone. -/
def State.itemHeater (s : State) (z : ZoneNo) : Item :=
  { present := s.tables.zt[z].heater != 0, code := 2, number := z.val }

/-- The curve item of a zone. -/
def State.itemCurve (s : State) (z : ZoneNo) : Item :=
  { present := curveValid s.tables.lin[s.tables.zt[z].curve], code := 3, number := z.val }

/-- The role target of a press: the platen, ejector force and ejector position are targets 17, 25 and 21 on
(Table 24). -/
def pressTarget (base : Nat) (p : PressNo) : TargetNo := Fin.ofNat 29 (base + p.val)

/-- The PLATEN, EJECT_FORCE and EJECT_POS items of a press, in that order. -/
def State.itemsPress (s : State) (p : PressNo) : List Item :=
  [{ present := s.bound (pressTarget 17 p), code := 4, number := p.val },
   { present := s.bound (pressTarget 25 p), code := 5, number := p.val },
   { present := s.bound (pressTarget 21 p), code := 6, number := p.val }]

/-- The items PRESS ASSIGN needs: thermocouples, heaters, curves, then the press's own (R102 step 6). -/
def State.itemsAssign (s : State) (p : PressNo) : List Item :=
  let zs := s.tables.pt[p].zones
  zs.map s.itemTc ++ zs.map s.itemHeater ++ zs.map s.itemCurve ++ s.itemsPress p

/-- The items MODE RUN needs: three a zone in turn, then each press's own (R162 steps 4 and 5). -/
def State.itemsRun (s : State) : List Item :=
  allPresses.flatMap (fun p =>
      (s.tables.pt[p].zones).flatMap (fun z => [s.itemTc z, s.itemHeater z, s.itemCurve z])) ++
    (allPresses.filter (fun p => !(s.tables.pt[p].zones.isEmpty))).flatMap s.itemsPress

/-- The first missing item. -/
def firstMissing (items : List Item) : Option Item := items.find? (fun x => !x.present)

/-- A BADTABLE refusal with its item (R152, Table 108). -/
def State.badTable (s : State) (x : Item) : State × Answer :=
  (s, .short .badTable [byteOf x.code, byteOf x.number])

/-! ## Mode (R162 to R164) -/

/-- The mode becomes RUN (R162, R59, R76). -/
def State.enterRun (s : State) : State := ({ s with mode := .run, periodCount := 0 }).weighGate

/-- MODE RUN (R162). -/
def State.doModeRun (s : State) : State × Answer :=
  if s.mode == .run then s.refused .badState
  else if s.census.state == .running then s.refused .busy
  else if s.tables.sys.censusRequired && !s.census.passLatch then
    s.badTable { present := false, code := 0, number := 0 }
  else
    match firstMissing s.itemsRun with
    | some x => s.badTable x
    | none => s.enterRun.okWith []

/-- A press in cycle. -/
def State.inCycle (s : State) (p : PressNo) : Bool := s.presses[p].state.inCycle

/-- The presses in cycle, ascending. -/
def State.cycling (s : State) : List PressNo := allPresses.filter s.inCycle

/-- The mode becomes CONFIG: ungranted burst frames and released OPENs are discarded (R12, R13, R163 step 4). -/
def State.enterConfig (s : State) : State :=
  { s with mode := .config,
           line := { s.line with burst := [], release := s.line.release.filter (fun x => x.kind == .label) } }

/-- MODE STOP finalises a press in cycle: a stroke is ended with a halt (R130, R116). -/
def State.stopPress (s : State) (p : PressNo) : State := (s.haltIfEjecting p).finalise p .aborted .idle

/-- Every press enters IDLE with recipe none (R116), in ascending press number: R116 orders the finalised presses
and leaves the order of the READY presses' PRESS_STATE notices open (DESIGN CHOICE, log 11). -/
def State.allToIdle (s : State) : State := allPresses.foldl State.pressToIdle s

/-- An accepted MODE STOP (R163); a control period that is due comes first (log 8). -/
def State.modeStop (s : State) : State :=
  let s1 := s.settlePeriod.applyAllPosted
  (((s1.cycling).foldl State.stopPress s1).allToIdle).enterConfig.weighGate

/-- MODE STOP (R163). -/
def State.doModeStop (s : State) (force : Bool) : State × Answer :=
  if s.mode == .config then s.refused .badState
  else if !force && !s.cycling.isEmpty then s.refused .badState
  else s.modeStop.okWith [byteOf s.cycling.length]

/-- RESTART finalises a press in cycle, without a halt order (R130, R116). -/
def State.restartPress (s : State) (p : PressNo) : State := s.finalise p .aborted .idle

/-- RESTART's discarding of the queue, oldest first (R92). -/
def State.discardAll (s : State) : State :=
  s.charges.foldl (fun s e => s.recordCharge e .discarded) { s with charges := [] }

/-- RESTART steps 3 and 4: halts, channel 0's run, the hold and channel 1's pace timer (R164, R148). -/
def State.restartDrains (s : State) : State :=
  { s with presses := mapVector (fun q => { q with halt := .none }) s.presses,
           drain0 := { s.drain0 with running := false },
           line := { s.line with hold := .off },
           pace := s.timer (s.tables.sys.paceUnit * s.tables.sys.paceFactor) }

/-- RESTART step 5 and the marks of step 6 (R164). -/
def State.restartAgent (s : State) : State :=
  { s with agent := { s.agent with contexts := Vector.replicate 4 none, marks := Vector.replicate 4 none,
                                   turn := 0 } }

/-- RESTART step 6: notices, latches and counters; the census goes to IDLE and keeps its pass latch (R164,
R24). -/
def State.restartNotices (s : State) : State :=
  { s with notices := { s.notices with queue := [], latches := .clear, counters := Vector.replicate 12 0,
                                       half := Vector.replicate 12 false },
           census := { Census.reset with passLatch := s.census.passLatch } }

/-- RESTART's effect on the weigh station: OFF, uncounted, with recipe none (R92). -/
def State.restartWeigh (s : State) : State :=
  { s with weigh := { s.weigh with state := .off, window := [], recipe := none } }

/-- RESTART's steps 1 and 2 (R164). -/
def State.restartRecords (s : State) : State :=
  let s1 := s.settlePeriod.applyAllPosted
  ((s1.cycling).foldl State.restartPress s1).discardAll

/-- RESTART as one event (R164). -/
def State.restart (s : State) : State :=
  (s.restartRecords.allToIdle.restartDrains.restartAgent.restartNotices.enterConfig).restartWeigh

/-- RESTART (R164). -/
def State.doRestart (s : State) : State × Answer :=
  s.restart.okWith [byteOf s.cycling.length, byteOf s.charges.length]

/-! ## Census (R21) -/

/-- The census starts (R21). -/
def State.censusBegin (s : State) : State :=
  let nodes := s.tables.expectedNodes
  let s1 := { s with census := { state := .running, phase := .pending, todo := nodes,
                                 expected := nodes.length, missing := [], dirty := false, verdict := none,
                                 passLatch := false } }
  if nodes.isEmpty then s1.censusComplete else s1

/-- CENSUS START (R21). -/
def State.doCensusStart (s : State) : State × Answer :=
  if s.mode == .run then s.refused .badState
  else if s.census.state == .running then s.refused .busy
  else s.censusBegin.okWith []

/-! ## Presses (R102, R113) -/

/-- PRESS ASSIGN with none (R102 step 4). -/
def State.assignNone (s : State) (p : PressNo) : State × Answer :=
  if s.presses[p].state == .ready then (s.pressToIdle p).okWith [] else s.okWith []

/-- The press takes the recipe (R102 step 7). -/
def State.assign (s : State) (p : PressNo) (r : RecipeNo) : State :=
  ((s.updPress p (fun q => { q with recipe := some r })).clearZones p .regulating).setPressState p .ready

/-- PRESS ASSIGN with a recipe (R102 steps 5 to 7). -/
def State.assignRecipe (s : State) (p : PressNo) (r : RecipeNo) : State × Answer :=
  if !(s.tables.rt[r].valid) || s.tables.pt[p].zones.isEmpty then s.refused .badArg
  else
    match firstMissing (s.itemsAssign p) with
    | some x => s.badTable x
    | none => (s.assign p r).okWith []

/-- PRESS ASSIGN (R102). -/
def State.doPressAssign (s : State) (press recipe : Nat) : State × Answer :=
  if hp : press < 4 then
    if s.mode == .config || s.inCycle ⟨press, hp⟩ then s.refused .badState
    else if recipe == 255 then s.assignNone ⟨press, hp⟩
    else if hr : recipe < 8 then s.assignRecipe ⟨press, hp⟩ ⟨recipe, hr⟩
    else s.refused .badArg
  else s.refused .badArg

/-- An accepted PRESS ABORT or PRESS SCRAP (R113, R130). -/
def State.endCycle (s : State) (p : PressNo) (d : Disposition) : State × Answer :=
  ((s.haltIfEjecting p).finalise p d .ready).okWith (toBytes 4 s.store.recordNo.toNat)

/-- The checks of PRESS ABORT and PRESS SCRAP (R113). -/
def State.endPress (s : State) (press : Nat) (d : Disposition) : State × Answer :=
  if hp : press < 4 then
    if s.inCycle ⟨press, hp⟩ then s.endCycle ⟨press, hp⟩ d else s.refused .badState
  else s.refused .badArg

/-- PRESS ABORT (R113). -/
def State.doPressAbort (s : State) (press : Nat) : State × Answer := s.endPress press .aborted

/-- PRESS SCRAP (R113). -/
def State.doPressScrap (s : State) (press : Nat) : State × Answer := s.endPress press .scrap

/-! ## Weighing (R77, R82, R90) -/

/-- The weigh recipe is set, and the station follows it into or out of OFF (R77, R76). -/
def State.setWeighRecipe (s : State) (r : Option RecipeNo) : State :=
  ({ s with weigh := { s.weigh with recipe := r } }).weighGate

/-- WEIGH RECIPE with a value that passed checks 1 and 2 (R77). -/
def State.weighRecipeTo (s : State) (r : Option RecipeNo) : State × Answer :=
  if s.weigh.state.loaded && r != s.weigh.recipe then s.refused .badState
  else (s.setWeighRecipe r).okWith []

/-- WEIGH RECIPE (R77). -/
def State.doWeighRecipe (s : State) (recipe : Nat) : State × Answer :=
  if recipe == 255 then s.weighRecipeTo none
  else if hr : recipe < 8 then
    if s.tables.rt[recipe].valid then s.weighRecipeTo (some ⟨recipe, hr⟩) else s.refused .badArg
  else s.refused .badArg

/-- WEIGH TARE is accepted: EMPTY or STABLE with a stable window (R82). -/
def State.canTare (s : State) : Bool :=
  (match s.weigh.state with
    | .off => false
    | .noSignal => false
    | .empty => true
    | .loading => false
    | .stable _ _ _ => true) && windowStable s.tables.sys s.weigh.window

/-- An accepted WEIGH TARE (R82). -/
def State.tare (s : State) : State :=
  ({ s with tables := { s.tables with sys := { s.tables.sys with weighZero := stableRaw s.weigh.window } } }.clearMarks
    7 0).weighMove .empty

/-- WEIGH TARE (R82). -/
def State.doWeighTare (s : State) : State × Answer :=
  if s.canTare then s.tare.okWith (toBytes 2 (stableRaw s.weigh.window)) else s.refused .badState

/-- A charge discarded (R90). -/
def State.discardCharge (s : State) (e : ChargeEntry) : State :=
  ({ s with charges := removeEntry s.charges (fun x => x.number == e.number) }).recordCharge e .discarded

/-- CHARGE DISCARD (R90). -/
def State.doChargeDiscard (s : State) (n : ChargeNo) : State × Answer :=
  match s.chargeOf n with
  | none => s.refused .badArg
  | some e => (s.discardCharge e).okWith (toBytes 4 s.store.recordNo.toNat)

/-! ## Store and drains (R139, R140, R143, R129) -/

/-- The number of stored records not delivered on channel 0 (R140). -/
def Store.undelivered (t : Store) : Nat :=
  (allSlots.filter (fun i => (t.numberAt Delivery.undelivered0 i).isSome)).length

/-- A channel 0 run starts (R140 step 3). -/
def State.startRun (s : State) (src : Addr) (m : DrainMode) (count : Nat) : State :=
  { s with drain0 := { running := true, mode := some m, dest := some src,
                       remaining := if m == .single then 1 else count + 1, delivered := 0 } }

/-- DRAIN START (R140). -/
def State.doDrainStart (s : State) (src : Addr) (mode count : Nat) : State × Answer :=
  match DrainMode.ofCode mode with
  | none => s.refused .badArg
  | some m =>
    if 63 < count then s.refused .badArg
    else if s.drain0.running then s.refused .busy
    else (s.startRun src m count).okWith [byteOf s.store.undelivered]

/-- DRAIN STOP (R143). -/
def State.doDrainStop (s : State) : State × Answer :=
  if s.drain0.running then (s.endRun .stopped).okWith [byteOf s.drain0.delivered] else s.refused .badState

/-- The effective number of a RELEASE, absent with nothing stored (R139). -/
def Store.effective (t : Store) (n : Number) : Option Number :=
  match t.highest.bind (t.numberAt (fun _ => true)) with
  | none => none
  | some h => some (if precedes h n then h else n)

/-- A stored record numbered up to `n` is marked released and tested for freeing (R139, R138). -/
def Slot.release (n : Number) : Slot → Slot
  | .free => .free
  | .reserved h => .reserved h
  | .stored r d => if upTo r.number n then (Slot.stored r { d with released := true }).settle else .stored r d

/-- Mark every record up to `n` released (R139). -/
def State.releaseTo (s : State) (n : Number) : State :=
  { s with store := { s.store with slots := mapVector (Slot.release n) s.store.slots } }

/-- RELEASE (R139). -/
def State.doRelease (s : State) (n : Number) : State × Answer :=
  match s.store.effective n with
  | none => s.okWith ([0] ++ toBytes 4 0 ++ [0])
  | some e =>
    let s1 := s.releaseTo e
    s1.okWith ([1] ++ toBytes 4 e.toNat ++
      [byteOf (s1.store.countSlots Slot.isFree - s.store.countSlots Slot.isFree)])

/-- SERIAL BASE (R129). -/
def State.doSerialBase (s : State) (v : Number) : State × Answer :=
  ({ s with store := { s.store with serial := v } }).okWith (toBytes 4 s.store.serial.toNat)

end Sys2Proof.Machine
end

