-- ==== Sys2Proof/Machine/Agent.lean ====
section
/-!
DEFINITION. The management agent (09): deciding a request (R150), responses (R152, R153) and the parts of long
reads (R155, R147).
-/

namespace Sys2Proof.Machine

open Sys2Proof

/-! ## Responses (R152) -/

/-- An MRSP frame (Table 105). -/
def State.mrsp (s : State) (dst : Addr) (tag op : Byte) (r : MgmtResult) (part : Nat) (last : Bool)
    (data : List Byte) : Frame :=
  buildFrame s.own dst kindMrsp ([tag, op, byteOf r.code, byteOf part, mrspFlags last r] ++ data)

/-- A frame joins the response queue (R153). -/
def State.pushResponse (s : State) (f : Frame) : State :=
  { s with agent := { s.agent with responses := s.agent.responses ++ [f] } }

/-- A short response: part 0 with LAST (R152, R153). -/
def State.respond (s : State) (dst : Addr) (tag op : Byte) (r : MgmtResult) (data : List Byte) : State :=
  s.pushResponse (s.mrsp dst tag op r 0 true data)

/-! ## Deciding a request (R150) -/

/-- The entry of the requester table that holds a source address (R151). -/
def State.requester (s : State) (src : Addr) : Option (Fin 4) :=
  allAcc.find? (fun i => s.agent.acc[i].any (fun x => x.addr == src))

/-- The access level of an entry. -/
def State.levelOf (s : State) (i : Fin 4) : Level := (s.agent.acc[i]).elim .read (·.level)

/-- Carry out an operation for requester `i` at source `src` (R150 step 7, Table 85). -/
def State.perform (s : State) (i : Fin 4) (src : Addr) (tag : Byte) : Req → State × Answer
  | .ident => s.doIdent (s.levelOf i)
  | .status => s.doStatus
  | .counters => s.doCounters
  | .noticeEnable m => s.doNoticeEnable m
  | .tableRead t f c => s.doTableRead i tag t f c
  | .tableReadMark t e => s.doTableReadMark i tag t e
  | .tableWrite t e c => s.doTableWrite t e c
  | .tableWriteIfMarked t e c => s.doTableWriteIfMarked i t e c
  | .modeRun => s.doModeRun
  | .modeStop f => s.doModeStop f
  | .restart => s.doRestart
  | .censusStart => s.doCensusStart
  | .pressAssign p r => s.doPressAssign p r
  | .pressAbort p => s.doPressAbort p
  | .pressScrap p => s.doPressScrap p
  | .weighRecipe r => s.doWeighRecipe r
  | .weighTare => s.doWeighTare
  | .chargeDiscard n => s.doChargeDiscard n
  | .drainStart m c => s.doDrainStart src m c
  | .drainStop => s.doDrainStop
  | .release n => s.doRelease n
  | .recordRead n => s.doRecordRead i tag n
  | .serialBase v => s.doSerialBase v

/-- The response that an operation's answer asks for; a long read raises none at its acceptance (R153,
R154). -/
def finish (src : Addr) (tag op : Byte) (x : State × Answer) : State :=
  match x.2 with
  | .short r data => x.1.respond src tag op r data
  | .long => x.1

/-- Steps 6 and 7 of R150: the request, if its argument bytes have the right length. -/
def State.carryOut (s : State) (i : Fin 4) (src : Addr) (tag op : Byte) (req : Option Req) : State :=
  match req with
  | none => s.respond src tag op .badArg []
  | some r =>
    if r.argsOk then finish src tag op (s.perform i src tag r) else s.respond src tag op .badArg []

/-- Steps 3 to 7 of R150, for a request with a tag and an operation code. -/
def State.decideReq (s : State) (src : Addr) (tag op : Byte) (req : Option Req) : State :=
  match s.requester src with
  | none => s.respond src tag op .denied []
  | some i =>
    if !knownOperation op.toNat then s.respond src tag op .badArg []
    else if writingOperation op.toNat && s.levelOf i == .read then s.respond src tag op .denied []
    else s.carryOut i src tag op req

/-- An MREQ's payload: a tag, an operation code and argument bytes (Table 105); one too short for these is
dropped (R150 step 2). -/
def State.decidePayload (s : State) (src : Addr) : List Byte → State
  | tag :: op :: args => s.decideReq src tag op (parseReq op.toNat args)
  | [_] => s.count 8
  | [] => s.count 8

/-- An MREQ handed to the agent (R150). -/
def State.takeMreq (s : State) (f : Frame) : State :=
  if 4 ≤ s.agent.responses.length then s.count 8 else s.decidePayload f.srcAddr f.payload

/-- A request of the opcode table's management rows: the MREQ whose source, tag, operation and arguments it
names (R150, log 23). -/
def State.request (s : State) (src : Addr) (tag : Byte) (r : Req) : State :=
  if 4 ≤ s.agent.responses.length then s.count 8 else s.decideReq src tag (byteOf r.code) (some r)

/-! ## The parts of long reads (R155, R147) -/

/-- A context is ready: open and not waiting (R155). -/
def contextReady : Option Context → Bool
  | none => false
  | some c => c.wait == 0

/-- The four entries, starting at the turn (R155). -/
def turnOrder (t : Fin 4) : List (Fin 4) := [t, t + 1, t + 2, t + 3]

/-- The entry whose ready context builds the next part, when the queue has room for one (R155). -/
def State.nextPart (s : State) : Option (Fin 4) :=
  if s.agent.responses.length < 3 then
    (turnOrder s.agent.turn).find? (fun i => contextReady s.agent.contexts[i])
  else none

/-- A part: its result, whether it is the last, and its data. -/
structure Part where
  result : MgmtResult
  last : Bool
  data : List Byte
  deriving DecidableEq, Repr

/-- Part `k` of a table read (R155). -/
def State.tablePart (s : State) (table first count k : Nat) : Part :=
  let per := entriesPerPart table
  { result := .ok, last := count ≤ (k + 1) * per,
    data := s.entriesBytes table (first + k * per) (min per (count - k * per)) }

/-- The part of a record that is not, or no longer, stored (R147). -/
def Part.gone : Part := { result := .gone, last := true, data := [] }

/-- Part 0 or 1 of a record read, from the slot the record is in (R147). -/
def recordPart (k : Nat) (i : SlotNo) : Slot → Part
  | .free => .gone
  | .reserved _ => .gone
  | .stored r d =>
    if k == 0 then { result := .ok, last := false, data := [byteOf i.val, deliveryFlags d] ++ recordFixed r }
    else { result := .ok, last := true, data := recordZones r }

/-- The next part of a context, from the state as it stands (R155). -/
def State.partOf (s : State) (c : Context) : Part :=
  match c.what with
  | .table t f n => s.tablePart t f n c.part
  | .record n =>
    match s.store.find n with
    | none => .gone
    | some i => recordPart c.part i s.store.slots[i]

/-- The context after a part: closed by its LAST part (R154). -/
def Context.next (c : Context) (last : Bool) : Option Context :=
  if last then none else some { c with part := c.part + 1 }

/-- Build the next part of entry `i`'s context (R155). -/
def State.buildPart (s : State) (i : Fin 4) (c : Context) : State :=
  let part := s.partOf c
  let dst := (s.agent.acc[i]).elim 0 (·.addr)
  let s1 := s.pushResponse (s.mrsp dst c.tag c.op part.result c.part part.last part.data)
  { s1 with agent := { s1.agent with contexts := s1.agent.contexts.set i (c.next part.last), turn := i + 1 } }

/-- One grant of R155: a ready context, if there is one and the queue has room, builds its next part. -/
def State.longRead (s : State) : State :=
  match s.nextPart with
  | none => s
  | some i =>
    match s.agent.contexts[i] with
    | none => s
    | some c => s.buildPart i c

end Sys2Proof.Machine
end

