-- ==== Sys2Proof/Machine/Frames.lean ====
section
/-!
DEFINITION. The line commands: the receive checkers (R2, R3), the disposal of good frames (R6, R7, R9), and
the meanings of U_IN_FRAME, D_IN_FRAME, D_OUT_TRANSMISSION_END and U_OUT_TRANSMISSION_END.
-/

namespace Sys2Proof.Machine

open Sys2Proof

/-- A step that is taken while RSTn is high, with the boundaries at its end (R10, log 10); while RSTn is low
nothing of the part runs (R1, log 7). -/
def event (f : State → State) (s : State) : Host.Outcome State Fault Refusal :=
  if s.rstn then .next (f s).kick else .next s

/-! ## The receive checker (Table 6) -/

/-- A collection begun by a start delimiter. -/
def Checker.started : Checker := { collecting := true, count := 0, kept := [] }

/-- A data byte in COLLECT: counted, and kept while the count is 70 or less. -/
def Checker.take (c : Checker) (b : Byte) : Checker :=
  { c with count := c.count + 1, kept := if c.count + 1 ≤ 70 then c.kept ++ [b] else c.kept }

/-- The checker's response to a symbol: its next state, and the outcome of a frame the symbol completes. -/
def Checker.feed (c : Checker) (x : Symbol) : Checker × Option CheckResult :=
  match c.collecting, x with
  | false, .startDelim => (.started, none)
  | false, .idle => (c, none)
  | false, .endDelim => (c, none)
  | false, .data _ => (c, none)
  | true, .data b => (c.take b, none)
  | true, .endDelim => (.reset, some (checkFrame c.count c.kept true))
  | true, .idle => (.reset, some .framing)
  | true, .startDelim => (.started, some .framing)

/-! ## Disposal (R6, R7, R9) -/

/-- An overrun on a port: latch, notice, counter (R9; the notice goes before COUNTER_HALF as in Table 92,
log 11). -/
def State.overrun (s : State) (c : Fin 12) (port : Nat) : State :=
  ((s.updLatches (fun l => { l with overrun := true })).raise .overrun port 0).count c

/-- A good frame on U-in that passes downstream needs a DOWN buffer place (Table 9). -/
def State.downTraffic (s : State) (f : Frame) : State :=
  if 8 ≤ s.line.down.length then s.overrun 2 0
  else if f.kind == kindCmd then s.presentCmd f
  else s.pushDown f

/-- A good frame to the own address on U-in (Table 9). -/
def State.ownFrame (s : State) (f : Frame) : State :=
  if f.kind == kindMreq then s.takeMreq f else s.count 1

/-- The sync watch takes every good SYNC on U-in (R6, R17). It does so before the frame's disposal: no rule orders
SYNC_RESTORED against the OVERRUN, or the COUNTER_HALF, of the same frame (DESIGN CHOICE, log 11). -/
def State.watchSync (s : State) (f : Frame) : State := if f.kind == kindSync then s.syncArrival else s

/-- A good frame on U-in (R6): the sync watch, then the disposal of Table 9 (DESIGN CHOICE of this order, log 11). -/
def State.uGood (s : State) (f : Frame) : State :=
  if f.dstAddr == s.own then (s.watchSync f).ownFrame f else (s.watchSync f).downTraffic f

/-- A frame completed on U-in (R3, Table 7). -/
def State.uFrame (s : State) : CheckResult → State
  | .good f => s.uGood f
  | .framing => s.count 1
  | .crc => s.count 0

/-- A good frame on D-in seeks its UP buffer place (R7, R8). -/
def State.upTraffic (s : State) (f : Frame) : State :=
  if 8 ≤ s.line.up.length then s.overrun 5 1
  else { s with line := { s.line with up := s.line.up ++ [f] } }

/-- A good frame on D-in that is not wrong-side: census answer, SAMP or traffic (Table 10). -/
def State.dTraffic (s : State) (f : Frame) : State :=
  if s.censusAnswer f then s.censusNext true
  else if f.kind == kindSamp then (s.classify f).upTraffic f
  else s.upTraffic f

/-- A MREQ to the own address on D-in (R7). -/
def State.wrongSide (s : State) (f : Frame) : Bool := f.dstAddr == s.own && f.kind == kindMreq

/-- A frame completed on D-in, fed to the loss watch (R3, R7, R18). -/
def State.dFrame (s : State) : CheckResult → State
  | .good f => if s.wrongSide f then (s.count 4).lossBad else s.lossGood.dTraffic f
  | .framing => (s.count 4).lossBad
  | .crc => (s.count 3).lossBad

/-- One symbol on U-in; the boundaries follow each completed frame (R2, R10). -/
def State.uSymbol (s : State) (x : Symbol) : State :=
  let r := s.line.uChk.feed x
  let s1 := { s with line := { s.line with uChk := r.1 } }
  match r.2 with
  | none => s1
  | some c => (s1.uFrame c).kick

/-- One symbol on D-in. -/
def State.dSymbol (s : State) (x : Symbol) : State :=
  let r := s.line.dChk.feed x
  let s1 := { s with line := { s.line with dChk := r.1 } }
  match r.2 with
  | none => s1
  | some c => (s1.dFrame c).kick

/-! ## The meanings -/

/-- Symbols taken in order by one of the checkers; none are received while RSTn is low (R1, R2). -/
def receive (take : State → Symbol → State) (symbols : List Symbol) (s : State) :
    Host.Outcome State Fault Refusal :=
  if s.rstn then .next (symbols.foldl take s) else .next s

/-- U_IN_FRAME: the symbols are taken in order (R2, R3, R6). -/
def execUInFrame (symbols : List Symbol) (s : State) : Host.Outcome State Fault Refusal :=
  receive State.uSymbol symbols s

/-- D_IN_FRAME: the symbols are taken in order (R2, R3, R7). -/
def execDInFrame (symbols : List Symbol) (s : State) : Host.Outcome State Fault Refusal :=
  receive State.dSymbol symbols s

/-- The end of the transmission in progress on D-out; none, if D-out is IDLE (R10, log 6). -/
def State.dOutEnd (s : State) : State :=
  match s.line.dOut with
  | none => s
  | some x => ({ s with line := { s.line with dOut := none } }).dSent x.source

/-- D_OUT_TRANSMISSION_END (R10). -/
def execDOutEnd (s : State) : Host.Outcome State Fault Refusal := event State.dOutEnd s

/-- The end of the transmission in progress on U-out; none, if U-out is IDLE (R10, log 6). -/
def State.uOutEnd (s : State) : State :=
  match s.line.uOut with
  | none => s
  | some x => ({ s with line := { s.line with uOut := none } }).uSent x.source

/-- U_OUT_TRANSMISSION_END (R10). -/
def execUOutEnd (s : State) : Host.Outcome State Fault Refusal := event State.uOutEnd s

end Sys2Proof.Machine
end

