-- ==== Sys2Proof/Machine/Events.lean ====
section
/-!
DEFINITION. The meanings of the pin commands and of the part's own events: power-on and reset (R1, R10), the
control period (R60), the guard filter (R118, R119), and every timer's expiry. An expiry acts only where its
timer has run out (log 6).
-/

namespace Sys2Proof.Machine

open Sys2Proof

/-! ## Power-on and reset (R1) -/

/-- The power-on state with the straps read (R1, R5); what waits outside the part is kept. -/
def State.powerOn (s : State) (straps : BitVec 3) : State :=
  { State.reset with own := 48 + straps.setWidth 6, freeCount := s.freeCount, pending := s.pending }

/-- POWER_ON (R1). -/
def execPowerOn (straps : BitVec 3) (s : State) : Host.Outcome State Fault Refusal :=
  .next (s.powerOn straps)

/-- RSTn falls: both out-halves send idle symbols, a frame being sent is broken off (R10). -/
def State.resetFall (s : State) : State :=
  { s with rstn := false, line := { s.line with uOut := none, dOut := none } }

/-- RESET_ASSERT (R1, R10). -/
def execResetAssert (s : State) : Host.Outcome State Fault Refusal := .next s.resetFall

/-! ## Control period (R60) -/

/-- CONTROL_PERIOD: the period of a counted departure, where one is due (R59, R60, log 8). -/
def execControlPeriod (s : State) : Host.Outcome State Fault Refusal := event State.settlePeriod s

/-! ## Guard filter (R118, R119) -/

/-- The other level. -/
def GuardLevel.other : GuardLevel → GuardLevel
  | .closed => .open
  | .open => .closed

/-- The level of a pin: high is open (R118). -/
def levelOfPin (high : Bool) : GuardLevel := if high then .open else .closed

/-- Change one input of the filter. -/
def State.setGuard (s : State) (n : Fin 4) (g : GuardInput) : State := { s with guard := s.guard.set n g }

/-- The acceptance of a level, where the third differing sample has come: an accepted OPEN on a used guard is
a guard opening (R119). -/
def State.acceptGuard (s : State) (n : Fin 4) : State :=
  if s.guard[n].due then
    let s1 := s.setGuard n { accepted := s.guard[n].accepted.other, run := 0, due := false }
    if s1.guardOpen n then s1.guardOpening n else s1
  else s

/-- One sample of an input (R118). -/
def GuardInput.sample (g : GuardInput) (l : GuardLevel) : GuardInput :=
  if l == g.accepted then { g with run := 0 }
  else if g.run + 1 == 3 then { g with run := 0, due := true }
  else { g with run := g.run + 1 }

/-- A sample of input `n`; an acceptance still due from an earlier sample is taken first (log 9). -/
def State.sampleGuard (levels : BitVec 4) (s : State) (n : Fin 4) : State :=
  let s1 := s.acceptGuard n
  s1.setGuard n (s1.guard[n].sample (levelOfPin (levels.getLsbD n)))

/-- The sampling of all four inputs (R118), in ascending input number, in which acceptances still due are taken
(DESIGN CHOICE of this order, log 9). -/
def State.sampleGuards (s : State) (levels : BitVec 4) : State :=
  allPresses.foldl (State.sampleGuard levels) { s with gdLevels := levels }

/-- GUARD_SAMPLE (R118). -/
def execGuardSample (levels : BitVec 4) (s : State) : Host.Outcome State Fault Refusal :=
  event (fun s => s.sampleGuards levels) s

/-- GUARD_LEVEL_ACCEPTED (R119). -/
def execGuardLevelAccepted (n : Fin 4) (s : State) : Host.Outcome State Fault Refusal :=
  event (fun s => s.acceptGuard n) s

/-! ## The line's timers (R17, R19, R22) -/

/-- The zones of a CURING press are flagged at the move to SYNC_LOST (R67). -/
def State.flagCuring (s : State) (p : PressNo) : State :=
  if s.presses[p].state == .curing then s.flagSyncLost p else s

/-- A SYNC in the DOWN buffer is marked: its departure is uncounted (R59). -/
def DownItem.missSync (d : DownItem) : DownItem :=
  if d.frame.kind == kindSync then { d with uncounted := true } else d

/-- The departures of the SYNC frames that the DOWN buffer holds, the one being sent among them, will be uncounted
(R59; DESIGN CHOICE for the one being sent, which keeps its place: log 26). -/
def State.missSyncs (s : State) : State :=
  { s with line := { s.line with down := s.line.down.map DownItem.missSync } }

/-- The sync watch moves to SYNC_LOST (R17, R59). A control period that is due is taken first (log 8). -/
def State.syncExpired (s : State) : State :=
  let s1 := s.settlePeriod
  let s2 := ({ s1 with sync := { lost := true, timer := none } }.raise .syncLoss 0 0).updLatches
    (fun l => { l with syncLoss := true })
  allPresses.foldl State.flagCuring s2.missSyncs

/-- The expiry of the sync timer. -/
def State.syncTimeout (s : State) : State := if timerDue s.now s.sync.timer then s.syncExpired else s

/-- SYNC_TIMEOUT (R17). -/
def execSyncTimeout (s : State) : Host.Outcome State Fault Refusal := event State.syncTimeout s

/-- The expiry of the silence timer (R19). -/
def State.silenceTimeout (s : State) : State :=
  if timerDue s.now s.loss.timer then ({ s with loss := { s.loss with timer := none } }).lossCause false else s

/-- SILENCE_TIMEOUT (R19). -/
def execSilenceTimeout (s : State) : Host.Outcome State Fault Refusal := event State.silenceTimeout s

/-- The answer window of the probe in hand has run out (R22). -/
def State.windowDue (s : State) : Bool :=
  match s.census.phase with
  | .none => false
  | .pending => false
  | .sending => false
  | .window t => t.expired s.now

/-- The close of a census window by expiry (R22). -/
def State.windowExpiry (s : State) : State := if s.windowDue then s.censusNext false else s

/-- CENSUS_WINDOW_EXPIRY (R22). -/
def execCensusWindowExpiry (s : State) : Host.Outcome State Fault Refusal := event State.windowExpiry s

/-! ## Target age (R35) -/

/-- A FRESH target's age exceeds its maximum age (R35). -/
def Target.aged (now : Time) : Target → Bool
  | .unbound => false
  | .unrefreshed => false
  | .fresh _ t m => m < elapsed now t
  | .stale _ _ => false

/-- A FRESH target that has become STALE keeps its value and time (R35). -/
def Target.age : Target → Target
  | .unbound => .unbound
  | .unrefreshed => .unrefreshed
  | .fresh v t _ => .stale v t
  | .stale v t => .stale v t

/-- The expiry of a target's age timer (R35). -/
def State.targetExpiry (s : State) (t : TargetNo) : State :=
  if s.targets[t].aged s.now then s.setTarget t s.targets[t].age else s

/-- TARGET_AGE_EXPIRY (R35). -/
def execTargetAgeExpiry (t : TargetNo) (s : State) : Host.Outcome State Fault Refusal :=
  event (fun s => s.targetExpiry t) s

/-! ## Weigh station and queue (R83, R88) -/

/-- WEIGH_SIGNAL_CHECK (R83). -/
def execWeighSignalCheck (s : State) : Host.Outcome State Fault Refusal := event State.weighCheck s

/-- The expiry of a queued charge whose time has come (R88). -/
def State.chargeExpiry (s : State) (n : ChargeNo) : State :=
  match s.chargeOf n with
  | none => s
  | some e => if e.expired s.now then s.expireCharge e else s

/-- CHARGE_EXPIRED (R88). -/
def execChargeExpired (n : ChargeNo) (s : State) : Host.Outcome State Fault Refusal :=
  event (fun s => s.chargeExpiry n) s

/-! ## The press timers (R104) -/

/-- The close timer's expiry in CLOSING: finalised ABORTED with close timeout seen (R105). -/
def State.closeExpiry (s : State) (p : PressNo) : State :=
  if timerDue s.now s.presses[p].closeT && s.presses[p].state == .closing then
    (s.updCycle p (fun c => { c with closeTimeout := true })).finalise p .aborted .ready
  else s

/-- CLOSE_TIMER_EXPIRY (R105). -/
def execCloseTimerExpiry (p : PressNo) (s : State) : Host.Outcome State Fault Refusal :=
  event (fun s => s.closeExpiry p) s

/-- The dwell timer's expiry in CURING: the mark, then the CURED test (R106). -/
def State.dwellExpiry (s : State) (p : PressNo) : State :=
  if timerDue s.now s.presses[p].dwellT && s.presses[p].state == .curing then
    (s.updPress p (fun q => { q with dwellT := none, dwellDone := true })).testCured p
  else s

/-- DWELL_TIMER_EXPIRY (R106). -/
def execDwellTimerExpiry (p : PressNo) (s : State) : Host.Outcome State Fault Refusal :=
  event (fun s => s.dwellExpiry p) s

/-- The hold timer's expiry: the held OPEN is discarded (R109). -/
def State.holdExpiry (s : State) (p : PressNo) : State :=
  if timerDue s.now s.presses[p].holdT then
    (s.updPress p (fun q => { q with hold := none, holdT := none })).raise .openHoldExpired p.val 0
  else s

/-- OPEN_HOLD_EXPIRED (R109). -/
def execOpenHoldExpired (p : PressNo) (s : State) : Host.Outcome State Fault Refusal :=
  event (fun s => s.holdExpiry p) s

/-- The open timer's expiry in OPENING (R110). -/
def State.openExpiry (s : State) (p : PressNo) : State :=
  if timerDue s.now s.presses[p].openT && s.presses[p].state == .opening then
    ((s.updPress p (fun q => { q with openT := none })).updCycle p
      (fun c => { c with openTimeout := true })).raise .openTimeout p.val 0
  else s

/-- OPEN_TIMEOUT (R110). -/
def execOpenTimeout (p : PressNo) (s : State) : Host.Outcome State Fault Refusal :=
  event (fun s => s.openExpiry p) s

/-- The eject timer's expiry in EJECTING (R124). -/
def State.ejectExpiry (s : State) (p : PressNo) : State :=
  if timerDue s.now s.presses[p].ejectT && s.presses[p].state == .ejecting then s.enterStuck p .timeout else s

/-- EJECT_TIMER_EXPIRY (R124). -/
def execEjectTimerExpiry (p : PressNo) (s : State) : Host.Outcome State Fault Refusal :=
  event (fun s => s.ejectExpiry p) s

/-! ## Channel 1's pace and long reads (R145, R155) -/

/-- The pace timer's expiry: it runs no longer, and the channel may be ready again (R145). -/
def State.paceExpiry (s : State) : State := if timerDue s.now s.pace then { s with pace := none } else s

/-- PACE_TIMER_EXPIRY (R145). -/
def execPaceTimerExpiry (s : State) : Host.Outcome State Fault Refusal := event State.paceExpiry s

/-- LONG_READ_PART (R155). -/
def execLongReadPart (s : State) : Host.Outcome State Fault Refusal := event State.longRead s

end Sys2Proof.Machine
end

