-- ==== Sys2Proof/Machine/Requests.lean ====
section
/-!
DEFINITION. The meanings of the management rows of the opcode table: each is the arrival of the MREQ that
names it, decided by the agent (R150, log 23).
-/

namespace Sys2Proof.Machine

open Sys2Proof

/-- A management row: the agent takes the request (R150). -/
def management (src : Addr) (tag : Byte) (r : Req) (s : State) : Host.Outcome State Fault Refusal :=
  event (fun s => s.request src tag r) s

/-- IDENT (R161). -/
def execIdent (src : Addr) (tag : Byte) (s : State) : Host.Outcome State Fault Refusal :=
  management src tag .ident s

/-- STATUS (R170). -/
def execStatus (src : Addr) (tag : Byte) (s : State) : Host.Outcome State Fault Refusal :=
  management src tag .status s

/-- COUNTERS (R173). -/
def execCounters (src : Addr) (tag : Byte) (s : State) : Host.Outcome State Fault Refusal :=
  management src tag .counters s

/-- NOTICE_ENABLE (R169). -/
def execNoticeEnable (src : Addr) (tag : Byte) (mask : BitVec 24) (s : State) :
    Host.Outcome State Fault Refusal :=
  management src tag (.noticeEnable mask) s

/-- TABLE_READ (R156). -/
def execTableRead (src : Addr) (tag : Byte) (table first count : Byte) (s : State) :
    Host.Outcome State Fault Refusal :=
  management src tag (.tableRead table.toNat first.toNat count.toNat) s

/-- TABLE_READ_MARK (R159). -/
def execTableReadMark (src : Addr) (tag : Byte) (table entry : Byte) (s : State) :
    Host.Outcome State Fault Refusal :=
  management src tag (.tableReadMark table.toNat entry.toNat) s

/-- TABLE_WRITE (R157). -/
def execTableWrite (src : Addr) (tag : Byte) (table entry : Byte) (content : List Byte) (s : State) :
    Host.Outcome State Fault Refusal :=
  management src tag (.tableWrite table.toNat entry.toNat content) s

/-- TABLE_WRITE_IF_MARKED (R159). -/
def execTableWriteIfMarked (src : Addr) (tag : Byte) (table entry : Byte) (content : List Byte) (s : State) :
    Host.Outcome State Fault Refusal :=
  management src tag (.tableWriteIfMarked table.toNat entry.toNat content) s

/-- MODE_RUN (R162). -/
def execModeRun (src : Addr) (tag : Byte) (s : State) : Host.Outcome State Fault Refusal :=
  management src tag .modeRun s

/-- MODE_STOP (R163; bit 0 is the flag, R176). -/
def execModeStop (src : Addr) (tag : Byte) (force : Byte) (s : State) : Host.Outcome State Fault Refusal :=
  management src tag (.modeStop (force.toNat % 2 == 1)) s

/-- RESTART (R164). -/
def execRestart (src : Addr) (tag : Byte) (s : State) : Host.Outcome State Fault Refusal :=
  management src tag .restart s

/-- CENSUS_START (R21). -/
def execCensusStart (src : Addr) (tag : Byte) (s : State) : Host.Outcome State Fault Refusal :=
  management src tag .censusStart s

/-- PRESS_ASSIGN (R102). -/
def execPressAssign (src : Addr) (tag : Byte) (press recipe : Byte) (s : State) :
    Host.Outcome State Fault Refusal :=
  management src tag (.pressAssign press.toNat recipe.toNat) s

/-- PRESS_ABORT (R113). -/
def execPressAbort (src : Addr) (tag : Byte) (press : Byte) (s : State) :
    Host.Outcome State Fault Refusal :=
  management src tag (.pressAbort press.toNat) s

/-- PRESS_SCRAP (R113). -/
def execPressScrap (src : Addr) (tag : Byte) (press : Byte) (s : State) :
    Host.Outcome State Fault Refusal :=
  management src tag (.pressScrap press.toNat) s

/-- WEIGH_RECIPE (R77). -/
def execWeighRecipe (src : Addr) (tag : Byte) (recipe : Byte) (s : State) :
    Host.Outcome State Fault Refusal :=
  management src tag (.weighRecipe recipe.toNat) s

/-- WEIGH_TARE (R82). -/
def execWeighTare (src : Addr) (tag : Byte) (s : State) : Host.Outcome State Fault Refusal :=
  management src tag .weighTare s

/-- CHARGE_DISCARD (R90). -/
def execChargeDiscard (src : Addr) (tag : Byte) (number : ChargeNo) (s : State) :
    Host.Outcome State Fault Refusal :=
  management src tag (.chargeDiscard number) s

/-- DRAIN_START (R140). -/
def execDrainStart (src : Addr) (tag : Byte) (mode count : Byte) (s : State) :
    Host.Outcome State Fault Refusal :=
  management src tag (.drainStart mode.toNat count.toNat) s

/-- DRAIN_STOP (R143). -/
def execDrainStop (src : Addr) (tag : Byte) (s : State) : Host.Outcome State Fault Refusal :=
  management src tag .drainStop s

/-- RELEASE (R139). -/
def execRelease (src : Addr) (tag : Byte) (number : Number) (s : State) :
    Host.Outcome State Fault Refusal :=
  management src tag (.release number) s

/-- RECORD_READ (R147). -/
def execRecordRead (src : Addr) (tag : Byte) (number : Number) (s : State) :
    Host.Outcome State Fault Refusal :=
  management src tag (.recordRead number) s

/-- SERIAL_BASE (R129). -/
def execSerialBase (src : Addr) (tag : Byte) (value : Number) (s : State) :
    Host.Outcome State Fault Refusal :=
  management src tag (.serialBase value) s

end Sys2Proof.Machine
end

