-- ==== Sys2Proof/Machine/Dispatch.lean ====
section
/-! DEFINITION. The dispatch of a command to its meaning, one arm per row of spec/opcode_table.json. -/

namespace Sys2Proof.Machine

open Sys2Proof

def exec (i : Instr) (s : State) : Host.Outcome State Fault Refusal :=
  match i with
  | .powerOn straps => Sys2Proof.Machine.execPowerOn straps s
  | .resetAssert => Sys2Proof.Machine.execResetAssert s
  | .uInFrame symbols => Sys2Proof.Machine.execUInFrame symbols s
  | .dInFrame symbols => Sys2Proof.Machine.execDInFrame symbols s
  | .dOutEnd => Sys2Proof.Machine.execDOutEnd s
  | .uOutEnd => Sys2Proof.Machine.execUOutEnd s
  | .controlPeriod => Sys2Proof.Machine.execControlPeriod s
  | .guardSample levels => Sys2Proof.Machine.execGuardSample levels s
  | .guardLevelAccepted input => Sys2Proof.Machine.execGuardLevelAccepted input s
  | .syncTimeout => Sys2Proof.Machine.execSyncTimeout s
  | .silenceTimeout => Sys2Proof.Machine.execSilenceTimeout s
  | .censusWindowExpiry => Sys2Proof.Machine.execCensusWindowExpiry s
  | .targetAgeExpiry target => Sys2Proof.Machine.execTargetAgeExpiry target s
  | .weighSignalCheck => Sys2Proof.Machine.execWeighSignalCheck s
  | .chargeExpired number => Sys2Proof.Machine.execChargeExpired number s
  | .closeTimerExpiry press => Sys2Proof.Machine.execCloseTimerExpiry press s
  | .dwellTimerExpiry press => Sys2Proof.Machine.execDwellTimerExpiry press s
  | .openHoldExpired press => Sys2Proof.Machine.execOpenHoldExpired press s
  | .openTimeout press => Sys2Proof.Machine.execOpenTimeout press s
  | .ejectTimerExpiry press => Sys2Proof.Machine.execEjectTimerExpiry press s
  | .paceTimerExpiry => Sys2Proof.Machine.execPaceTimerExpiry s
  | .longReadPart => Sys2Proof.Machine.execLongReadPart s
  | .ident src tag => Sys2Proof.Machine.execIdent src tag s
  | .status src tag => Sys2Proof.Machine.execStatus src tag s
  | .counters src tag => Sys2Proof.Machine.execCounters src tag s
  | .noticeEnable src tag mask => Sys2Proof.Machine.execNoticeEnable src tag mask s
  | .tableRead src tag table first count => Sys2Proof.Machine.execTableRead src tag table first count s
  | .tableReadMark src tag table entry => Sys2Proof.Machine.execTableReadMark src tag table entry s
  | .tableWrite src tag table entry content => Sys2Proof.Machine.execTableWrite src tag table entry content s
  | .tableWriteIfMarked src tag table entry content => Sys2Proof.Machine.execTableWriteIfMarked src tag table entry content s
  | .modeRun src tag => Sys2Proof.Machine.execModeRun src tag s
  | .modeStop src tag force => Sys2Proof.Machine.execModeStop src tag force s
  | .restart src tag => Sys2Proof.Machine.execRestart src tag s
  | .censusStart src tag => Sys2Proof.Machine.execCensusStart src tag s
  | .pressAssign src tag press recipe => Sys2Proof.Machine.execPressAssign src tag press recipe s
  | .pressAbort src tag press => Sys2Proof.Machine.execPressAbort src tag press s
  | .pressScrap src tag press => Sys2Proof.Machine.execPressScrap src tag press s
  | .weighRecipe src tag recipe => Sys2Proof.Machine.execWeighRecipe src tag recipe s
  | .weighTare src tag => Sys2Proof.Machine.execWeighTare src tag s
  | .chargeDiscard src tag number => Sys2Proof.Machine.execChargeDiscard src tag number s
  | .drainStart src tag mode count => Sys2Proof.Machine.execDrainStart src tag mode count s
  | .drainStop src tag => Sys2Proof.Machine.execDrainStop src tag s
  | .release src tag number => Sys2Proof.Machine.execRelease src tag number s
  | .recordRead src tag number => Sys2Proof.Machine.execRecordRead src tag number s
  | .serialBase src tag value => Sys2Proof.Machine.execSerialBase src tag value s

end Sys2Proof.Machine
end

