-- ==== Sys2Proof/Machine/Clock.lean ====
section
/-!
DEFINITION. What the part does of its own accord with no command waiting (log 2): the events due at this
moment, or else the next millisecond event and the events due at it, in an order the spec leaves open (log 3).
-/

namespace Sys2Proof.Machine

open Sys2Proof

/-! ## Events due -/

/-- An event, if it is due. -/
def dueIf (b : Bool) (c : Instr) : List (List Instr) := if b then [[c]] else []

/-- The events that take no time: a control period, the guard acceptances of a GUARD_SAMPLE sent from outside
(log 9), a part of a long read. -/
def State.dueNow (s : State) : List (List Instr) :=
  dueIf s.periodDue .controlPeriod ++
    allPresses.flatMap (fun n => dueIf s.guard[n].due (.guardLevelAccepted n)) ++
    dueIf s.nextPart.isSome .longReadPart

/-- The role targets, ascending. -/
def allTargets : List TargetNo := List.finRange 29

/-- The targets other than WEIGH whose age timers expire (R35). -/
def State.dueTargets (s : State) : List (List Instr) :=
  (allTargets.filter (fun t => t != weighTarget)).flatMap
    (fun t => dueIf (s.targets[t].aged s.now) (.targetAgeExpiry t))

/-- The WEIGH target's expiry, then the station's check, which acts on it at the same millisecond (R36, R83). -/
def State.dueWeigh (s : State) : List (List Instr) :=
  if s.targets[weighTarget].aged s.now then [[.targetAgeExpiry weighTarget, .weighSignalCheck]]
  else [[.weighSignalCheck]]

/-- The timers of a press that expire (R104). -/
def State.duePress (s : State) (p : PressNo) : List (List Instr) :=
  dueIf (timerDue s.now s.presses[p].closeT) (.closeTimerExpiry p) ++
    dueIf (timerDue s.now s.presses[p].dwellT) (.dwellTimerExpiry p) ++
    dueIf (timerDue s.now s.presses[p].holdT) (.openHoldExpired p) ++
    dueIf (timerDue s.now s.presses[p].openT) (.openTimeout p) ++
    dueIf (timerDue s.now s.presses[p].ejectT) (.ejectTimerExpiry p)

/-- The timers of the line and of channel 1 that expire (R17, R19, R22, R145). -/
def State.dueLine (s : State) : List (List Instr) :=
  dueIf (timerDue s.now s.sync.timer) .syncTimeout ++
    dueIf (timerDue s.now s.loss.timer) .silenceTimeout ++
    dueIf s.windowDue .censusWindowExpiry ++
    dueIf (timerDue s.now s.pace) .paceTimerExpiry

/-- The queued charges that expire (R88). -/
def State.dueCharges (s : State) : List (List Instr) :=
  s.charges.flatMap (fun e => dueIf (e.expired s.now) (.chargeExpired e.number))

/-- The sampling of the guard inputs, then the levels it accepts, with nothing between: R118 accepts a level at
its third differing sample. The group stands at a free place among the millisecond's other events, so that an
opening is first or last, as R119 lets either be (DESIGN CHOICE, log 9). Where one sampling accepts levels of several
inputs, R118 and R166 leave open which comes first; here they follow in ascending input number (DESIGN CHOICE, log 9). -/
def State.dueGuards (s : State) (levels : BitVec 4) : List Instr :=
  .guardSample levels ::
    (allPresses.filter (fun n => (s.guard[n].sample (levelOfPin (levels.getLsbD n))).due)).map .guardLevelAccepted

/-- Every event of the millisecond event at the current count, in groups that keep their order. The levels
sampled are a free value (log 4). -/
def State.dueMillisecond (s : State) : List (List Instr) :=
  [s.dueGuards (Config.guardPins s.freeCount)] ++ s.dueTargets ++ s.dueWeigh ++ s.dueLine ++
    s.dueCharges ++ allPresses.flatMap s.duePress

/-! ## The order left open (log 3) -/

/-- Insert by key, after the keys not above it. -/
def insertByKey {α : Type} (k : Nat) (x : α) : List (Nat × α) → List (Nat × α)
  | [] => [(k, x)]
  | y :: ys => if k < y.1 then (k, x) :: y :: ys else y :: insertByKey k x ys

/-- Each element given a free key, and put at its place. -/
def placeFree {α : Type} : Nat → List α → List (Nat × α)
  | _, [] => []
  | c, x :: xs => insertByKey (Config.dueOrder c) x (placeFree (c + 1) xs)

/-- The events in a free order; a single one needs none. -/
def freeOrder (c : Nat) : List (List Instr) → List Instr
  | [] => []
  | [g] => g
  | g :: h :: rest => (placeFree c (g :: h :: rest)).flatMap (·.2)

/-- Queue events in a free order, drawing a free value for each and one more. -/
def State.queueEvents (s : State) (gs : List (List Instr)) : State :=
  { s with pending := freeOrder (s.freeCount + 1) gs, freeCount := s.freeCount + gs.length + 1 }

/-- The millisecond event: the count moves on, and what is due at it is queued (R1). -/
def State.millisecond (s : State) : State :=
  let s1 := { s with now := s.now + 1 }
  s1.queueEvents s1.dueMillisecond

/-- What the part does with no command waiting: nothing while RSTn is low (R1); otherwise the events due now,
or the next millisecond event (log 2). -/
def State.tick (s : State) : State :=
  if s.rstn then
    if s.dueNow.isEmpty then s.millisecond else s.queueEvents s.dueNow
  else s

end Sys2Proof.Machine
end

