-- ==== Sys2Proof/Machine/Step.lean ====
section
/-!
DEFINITION. The step: the command at the front of the queue is executed with the queue's rest; with an empty
queue the part does what is due of its own accord (log 2).
-/

namespace Sys2Proof.Machine

open Sys2Proof

/-- The state with a queue. -/
def State.withPending (s : State) (q : List Instr) : State := { s with pending := q }

/-- One step of the block. -/
def step (s : State) : Host.Outcome State Fault Refusal :=
  match s.pending with
  | c :: rest => exec c (s.withPending rest)
  | [] => .next s.tick

/-- The command a word spells put at the front of the queue; the table gives no bits, so no word spells one
(log 20). -/
def State.withFetchWord (s : State) (nbits w : Nat) : State :=
  match decodeTableWord nbits w with
  | some c => s.withPending (c :: s.pending)
  | none => s

end Sys2Proof.Machine
end

