-- ==== Sys2Proof/Safety.lean ====
section
/-!
DEFINITION. What counts as a safe run, and the terms the claims use: the bounds of every list and counter
(R8, R18, R84, R118, R153, R158, R167, R172), the custody of reserved slots (R134), the quiet of CONFIG
(R113, R158), and the shapes of responses and of finalised records.
-/

namespace Sys2Proof.Machine

open Sys2Proof

/-! ## A safe run -/

/-- A step that goes on: neither a fault nor a refusal. -/
def goesOn (o : Host.Outcome State Fault Refusal) : Prop := ∃ t, o = .next t

/-- The bounds the spec gives the lists and counters of the part. -/
structure State.Bounded (s : State) : Prop where
  /-- R8. -/
  up : s.line.up.length ≤ 8
  /-- R8. -/
  down : s.line.down.length ≤ 8
  /-- R167. -/
  notices : s.notices.queue.length ≤ 16
  /-- R172. -/
  counters : ∀ c : Fin 12, s.notices.counters[c] ≤ 255
  /-- R153. -/
  responses : s.agent.responses.length ≤ 4
  /-- R158. -/
  posted : s.agent.posted.length ≤ 4
  /-- R84. -/
  charges : s.charges.length ≤ 8
  /-- R18. -/
  window : s.loss.window.length ≤ 16
  /-- R18. -/
  goodRun : s.loss.goodRun ≤ 4
  /-- R118. -/
  runs : ∀ n : Fin 4, s.guard[n].run ≤ 2

/-- In CONFIG every press is IDLE and no write waits (R113, R158). -/
def State.Quiet (s : State) : Prop :=
  s.mode = .config → (∀ p : PressNo, s.presses[p].state = .idle) ∧ s.agent.posted = []

/-- Custody of the reserved slots: each queued charge and each press in cycle holds a slot reserved for it and
no other holds it, charge numbers are distinct, and a press in cycle has its recipe and record (R84, R101,
R134). -/
structure State.Custody (s : State) : Prop where
  numbers : (s.charges.map (·.number)).Nodup
  charge : ∀ e ∈ s.charges, s.store.slots[e.slot] = .reserved (.charge e.number)
  heldByCharge : ∀ (i : SlotNo) (n : ChargeNo), s.store.slots[i] = .reserved (.charge n) →
    ∃ e ∈ s.charges, e.number = n ∧ e.slot = i
  inCycle : ∀ p : PressNo, s.presses[p].state.inCycle = true →
    s.presses[p].slot.isSome ∧ s.presses[p].cycle.isSome ∧ s.presses[p].recipe.isSome
  outOfCycle : ∀ p : PressNo, s.presses[p].state.inCycle = false → s.presses[p].slot = none
  press : ∀ (p : PressNo) (i : SlotNo), s.presses[p].slot = some i →
    s.store.slots[i] = .reserved (.press p)
  heldByPress : ∀ (i : SlotNo) (p : PressNo), s.store.slots[i] = .reserved (.press p) →
    s.presses[p].slot = some i
  weigh : ∀ i : SlotNo, s.store.slots[i] ≠ .reserved .weigh

/-- Record numbers that lie within half the number circle from some number on (R137's order is total there). -/
def Store.inHalf (t : Store) : Prop :=
  ∃ b : Number, ∀ (i : SlotNo) (r : Record) (d : Delivery), t.slots[i] = .stored r d →
    (r.number - b).toNat < 2147483648

/-! ## Sources of the out-halves (Tables 11 and 12) -/

/-- A D-out source is ready (Table 11). -/
def State.readyD (s : State) : DSource → Bool
  | .halt => allPresses.any (fun p => (s.presses[p].halt.ready?).isSome)
  | .burst => !s.line.burst.isEmpty
  | .release => !s.line.release.isEmpty
  | .probe => s.census.phase == .pending && !s.census.todo.isEmpty
  | .down => !s.line.down.isEmpty
  | .drain1 =>
    s.tables.sys.recorder != 0 && s.pace.isNone &&
      allSlots.any (fun i => (s.store.numberAt Delivery.owing1 i).isSome)

/-- A U-out source is ready (Table 12, R141). -/
def State.readyU (s : State) : USource → Bool
  | .up => !s.line.up.isEmpty
  | .response => !s.agent.responses.isEmpty
  | .notice => !s.notices.queue.isEmpty
  | .drain0 =>
    s.drain0.running && decide (0 < s.drain0.remaining) && s.drain0.dest.isSome &&
      allSlots.any (fun i => (s.store.numberAt Delivery.undelivered0 i).isSome)

/-- The D-out sources in rank order (Table 11). -/
def ranksD : List DSource := [.halt, .burst, .release, .probe, .down, .drain1]

/-- The U-out sources in rank order (Table 12). -/
def ranksU : List USource := [.up, .response, .notice, .drain0]

/-- While RSTn is high no out-half idles beside a ready source, and a run has its destination (R10, R140). -/
structure State.Served (s : State) : Prop where
  down : s.rstn = true → s.line.dOut = none → ranksD.any s.readyD = false
  up : s.rstn = true → s.line.uOut = none → ranksU.any s.readyU = false
  run : s.drain0.running = true → s.drain0.dest.isSome = true

/-! ## Zones and presses (R58, Table 37) -/

/-- The zone state a zone has in a press's zone list, by the press's state (Table 37). -/
def ZoneState.fits : ZoneState → PressState → Bool
  | .idle, .idle => true
  | .regulating, x => x != .idle
  | .holding, x => x != .idle
  | .fallback, x => x != .idle
  | _, _ => false

/-- No zone stands in two lists or twice in one; every zone's state fits its press, or is UNASSIGNED without
one; an unregulated zone's preset entry is 0; and no write waits to a table whose writes are not posted (R58,
R68, R95, Table 86). -/
structure State.ZonesFit (s : State) : Prop where
  once : ∀ p : PressNo, (s.tables.pt[p].zones).Nodup
  apart : ∀ p q : PressNo, p ≠ q → ∀ z ∈ s.tables.pt[p].zones, z ∉ s.tables.pt[q].zones
  listed : ∀ p : PressNo, ∀ z ∈ s.tables.pt[p].zones, s.zones[z].state.fits s.presses[p].state = true
  unlisted : ∀ z : ZoneNo, (∀ p : PressNo, z ∉ s.tables.pt[p].zones) → s.zones[z].state = .unassigned
  preset : ∀ z : ZoneNo, s.zones[z].state = .unassigned ∨ s.zones[z].state = .idle → s.zones[z].preset = 0
  waiting : ∀ w ∈ s.agent.posted, w.table ≤ 3

/-! ## The channel table (R27) -/

/-- No two active entries have one key or bind one role target. -/
def chtUnique (t : Vector ChtEntry 64) : Prop :=
  ∀ i j : Fin 64, i ≠ j → t[i].active = true → t[j].active = true →
    ¬(t[i].node = t[j].node ∧ t[i].channel = t[j].channel) ∧ t[i].target ≠ t[j].target

/-- The tables after a posted write: the entry it names becomes what it carries (R28, R40, R47, R57). -/
def Tables.after (t : Tables) : Write → Tables
  | .cht i e => { t with cht := t.cht.set i e }
  | .lin i c => { t with lin := t.lin.set i c }
  | .crt i r => { t with crt := t.crt.set i r }
  | .zt z e => { t with zt := t.zt.set z e }
  | .rt i r => { t with rt := t.rt.set i r }
  | .pt p e => { t with pt := t.pt.set p e }
  | .gt i e => { t with gt := t.gt.set i e }
  | .sys y => { t with sys := y }
  | .acc _ _ => t

/-- A channel table after a posted write, if it is one to it. -/
def chtAfter (t : Vector ChtEntry 64) : Write → Vector ChtEntry 64
  | .cht i e => t.set i e
  | _ => t

/-- The applied channel table has unique keys and targets, and keeps them as each posted write is applied. -/
def State.KeysUnique (s : State) : Prop :=
  ∀ k : Nat, chtUnique ((s.agent.posted.take k).foldl chtAfter s.tables.cht)

/-! ## Received frames (R3) -/

/-- The framing conditions on the data bytes of a completed frame (R3). -/
def framingError (bs : List Byte) (ended : Bool) : Bool :=
  bs.length < 6 || 64 < (bs.getD 3 0).toNat || bs.length != (bs.getD 3 0).toNat + 6 || !ended

/-- The received CRC, high byte first (R4). -/
def receivedCrc (bs : List Byte) : BitVec 16 := bs.getD (bs.length - 2) 0 ++ bs.getD (bs.length - 1) 0

/-- The frame of these data bytes (Table 103). -/
def receivedFrame (bs : List Byte) : Frame :=
  { dst := bs.getD 0 0, src := bs.getD 1 0, kind := bs.getD 2 0, payload := (bs.drop 4).take (bs.length - 6),
    crc := receivedCrc bs }

/-- The state with the U-in checker in WAIT. -/
def State.uWait (s : State) : State := { s with line := { s.line with uChk := .reset } }

/-- The state with the D-in checker in WAIT. -/
def State.dWait (s : State) : State := { s with line := { s.line with dChk := .reset } }

/-- The frame fits the line and carries its CRC. -/
def Frame.sound (f : Frame) : Prop := f.payload.length ≤ 64 ∧ f.crc = crc16 f.body

/-- The MREQ of a management row: source, tag, operation code and argument bytes (Table 107). -/
def requestOf : Instr → Option (Addr × Byte × Byte × List Byte)
  | .ident a t => some (a, t, 1, [])
  | .status a t => some (a, t, 2, [])
  | .counters a t => some (a, t, 3, [])
  | .noticeEnable a t m => some (a, t, 4, toBytes 3 m.toNat)
  | .tableRead a t x f c => some (a, t, 5, [x, f, c])
  | .tableReadMark a t x e => some (a, t, 6, [x, e])
  | .tableWrite a t x e c => some (a, t, 7, x :: e :: c)
  | .tableWriteIfMarked a t x e c => some (a, t, 8, x :: e :: c)
  | .modeRun a t => some (a, t, 9, [])
  | .modeStop a t f => some (a, t, 10, [f])
  | .restart a t => some (a, t, 11, [])
  | .censusStart a t => some (a, t, 12, [])
  | .pressAssign a t p r => some (a, t, 13, [p, r])
  | .pressAbort a t p => some (a, t, 14, [p])
  | .pressScrap a t p => some (a, t, 15, [p])
  | .weighRecipe a t r => some (a, t, 16, [r])
  | .weighTare a t => some (a, t, 17, [])
  | .chargeDiscard a t n => some (a, t, 18, toBytes 2 n.toNat)
  | .drainStart a t m c => some (a, t, 19, [m, c])
  | .drainStop a t => some (a, t, 20, [])
  | .release a t n => some (a, t, 21, toBytes 4 n.toNat)
  | .recordRead a t n => some (a, t, 22, toBytes 4 n.toNat)
  | .serialBase a t v => some (a, t, 23, toBytes 4 v.toNat)
  | .powerOn _ => none
  | .resetAssert => none
  | .uInFrame _ => none
  | .dInFrame _ => none
  | .dOutEnd => none
  | .uOutEnd => none
  | .controlPeriod => none
  | .guardSample _ => none
  | .guardLevelAccepted _ => none
  | .syncTimeout => none
  | .silenceTimeout => none
  | .censusWindowExpiry => none
  | .targetAgeExpiry _ => none
  | .weighSignalCheck => none
  | .chargeExpired _ => none
  | .closeTimerExpiry _ => none
  | .dwellTimerExpiry _ => none
  | .openHoldExpired _ => none
  | .openTimeout _ => none
  | .ejectTimerExpiry _ => none
  | .paceTimerExpiry => none
  | .longReadPart => none

/-- The symbol completes a request on U-in: a good MREQ to the own address, of this operation with these argument
bytes (R2, R3, R6, Table 105). -/
def State.completesRequest (s : State) (y : Symbol) (code : Byte) (args : List Byte) : Prop :=
  ∃ f tag, (s.line.uChk.feed y).2 = some (.good f) ∧ f.dstAddr = s.own ∧ f.kind = kindMreq ∧
    f.payload = tag :: code :: args

/-! ## Gated commands (R99, R100) -/

/-- A CMD that the gate table makes a gated command of a class for a press, in RUN and for a press that is not
IDLE (R99, R100 steps 1 and 2). -/
structure Gated (s : State) (f : Frame) (cls : GateClass) (p : PressNo) : Prop where
  run : s.mode = .run
  awake : s.presses[p].state ≠ .idle
  single : f.dstAddr ≠ 63
  entry : ∃ code args i, f.payload = code :: args ∧ s.tables.gateEntry f.dstAddr code = some i ∧
    s.tables.gt[i].cls = cls ∧ s.tables.gt[i].press = p

/-- The guard of a press is open: guard used, and its input accepted OPEN (R119). -/
def State.guardIsOpen (s : State) (p : PressNo) : Prop :=
  s.tables.pt[p].guardUsed = true ∧ s.guard[p].accepted = .open

/-- The press changed to `q`, with the PRESS_STATE notice of its state (R101). -/
def State.moved (s : State) (p : PressNo) (q : Press) : State :=
  ({ s with presses := s.presses.set p q }).raise .pressState p.val q.state.code

/-! ## Frames -/

/-- A set of the fields of State: those an operation may change. -/
structure Footprint where
  now : Bool := false
  rstn : Bool := false
  own : Bool := false
  gdLevels : Bool := false
  mode : Bool := false
  line : Bool := false
  sync : Bool := false
  loss : Bool := false
  census : Bool := false
  tables : Bool := false
  targets : Bool := false
  zones : Bool := false
  periodCount : Bool := false
  periodDue : Bool := false
  guard : Bool := false
  weigh : Bool := false
  charges : Bool := false
  presses : Bool := false
  store : Bool := false
  drain0 : Bool := false
  pace : Bool := false
  agent : Bool := false
  notices : Bool := false
  freeCount : Bool := false
  pending : Bool := false

/-- From `s` to `t` nothing changes outside the footprint. -/
structure Only (c : Footprint) (s t : State) : Prop where
  now : c.now = false → t.now = s.now
  rstn : c.rstn = false → t.rstn = s.rstn
  own : c.own = false → t.own = s.own
  gdLevels : c.gdLevels = false → t.gdLevels = s.gdLevels
  mode : c.mode = false → t.mode = s.mode
  line : c.line = false → t.line = s.line
  sync : c.sync = false → t.sync = s.sync
  loss : c.loss = false → t.loss = s.loss
  census : c.census = false → t.census = s.census
  tables : c.tables = false → t.tables = s.tables
  targets : c.targets = false → t.targets = s.targets
  zones : c.zones = false → t.zones = s.zones
  periodCount : c.periodCount = false → t.periodCount = s.periodCount
  periodDue : c.periodDue = false → t.periodDue = s.periodDue
  guard : c.guard = false → t.guard = s.guard
  weigh : c.weigh = false → t.weigh = s.weigh
  charges : c.charges = false → t.charges = s.charges
  presses : c.presses = false → t.presses = s.presses
  store : c.store = false → t.store = s.store
  drain0 : c.drain0 = false → t.drain0 = s.drain0
  pace : c.pace = false → t.pace = s.pace
  agent : c.agent = false → t.agent = s.agent
  notices : c.notices = false → t.notices = s.notices
  freeCount : c.freeCount = false → t.freeCount = s.freeCount
  pending : c.pending = false → t.pending = s.pending

/-! ## Responses -/

/-- The agent takes a request from requester `i` at this source: RSTn high, room in the response queue, and
the level WRITE where the operation writes (R150). -/
def State.serves (s : State) (src : Addr) (i : Fin 4) (write : Bool) : Bool :=
  s.rstn && decide (s.agent.responses.length < 4) && (s.requester src == some i) &&
    (!write || s.levelOf i == .write)

/-- A one-frame OK answer: result 0, part 0, LAST (Table 105). -/
def okFrame (own dst : Addr) (tag op : Byte) (data : List Byte) : Frame :=
  buildFrame own dst kindMrsp ([tag, op, 0, 0, 1] ++ data)

/-- A one-frame refusal with a result code: part 0, LAST and ERR (Table 105). -/
def errFrame (own dst : Addr) (tag op code : Byte) (data : List Byte) : Frame :=
  buildFrame own dst kindMrsp ([tag, op, code, 0, 3] ++ data)

/-- The state with a frame at the tail of the response queue. -/
def State.answered (s : State) (f : Frame) : State :=
  { s with agent := { s.agent with responses := s.agent.responses ++ [f] } }

/-! ## Presses and records -/

/-- A press with the parts a press in cycle has: its slot, record and recipe (R101). -/
def State.carries (s : State) (p : PressNo) (n : SlotNo) (c : CycleRecord) (r : RecipeNo) : Bool :=
  s.presses[p].slot == some n && s.presses[p].cycle == some c && s.presses[p].recipe == some r

/-- What a finalised PART record carries of its cycle, and of the zones of its press's list: a record flag that any of
them sets, and each one's flags and cycle extremes (R67, R115, R132). -/
structure RecordOf (s : State) (p : PressNo) (c : CycleRecord) (r : RecipeNo) (d : Disposition)
    (x : Record) : Prop where
  number : x.number = s.store.recordNo
  kind : x.kind = .part
  press : x.press = some p
  recipe : x.recipe = r
  disposition : x.disposition = d
  charge : x.chargeNo = c.chargeNo ∧ x.weight = c.weight ∧ x.dev = c.dev ∧ x.age = some c.age
  cure : x.cureTime = c.cureTime ∧
    x.permille = min 65535 (lowest (s.tables.pt[p].zones.map (fun z => s.zones[z].cure)) * 1000 /
      s.tables.rt[r].threshold)
  eject : x.peak = s.presses[p].peak ∧ x.retries = c.retries ∧ x.serial = c.serial
  zoneCount : x.zoneCount = c.zoneCount
  flags : x.flags =
    { staleZone := s.tables.pt[p].zones.any (fun z => s.zones[z].staleSeen),
      syncLost := s.tables.pt[p].zones.any (fun z => s.zones[z].syncLost),
      cureHot := s.tables.pt[p].zones.any (fun z => s.zones[z].cureHot),
      guardOpened := c.guardOpened, closeTimeout := c.closeTimeout, openTimeout := c.openTimeout,
      lineLoss := c.lineLoss }
  zones : x.zones = s.tables.pt[p].zones.map (fun z =>
    { zone := z, staleSeen := s.zones[z].staleSeen, sensorFault := s.zones[z].sensorFault,
      underSeen := s.zones[z].underSeen, overSeen := s.zones[z].overSeen,
      min := s.zones[z].cycMin, max := s.zones[z].cycMax })

/-- The delivery state of a record just stored (R134, R136). -/
def freshDelivery (s : State) : Delivery :=
  { delivered0 := false, owed1 := s.tables.sys.recorder != 0, delivered1 := false, released := false }

/-- A press stopped for D-line loss: STUCK with cause LINE, its eject timer cancelled and its debounce 0, the
record's line-loss flag set, and a halt ordered (R123 to R125). -/
def LossStops (s t : State) : Prop :=
  Only { loss := true, notices := true, presses := true, line := true } s t ∧
  { t.line with down := s.line.down } = s.line ∧
  t.line.down.map (fun d => { d with awaitedBy := none }) = s.line.down.map (fun d => { d with awaitedBy := none }) ∧
  (∀ p : PressNo, s.presses[p].state ≠ .ejecting → t.presses[p] = s.presses[p]) ∧
  (∀ p : PressNo, s.presses[p].state = .ejecting →
    t.presses[p].halt ≠ .none ∧
    { t.presses[p] with halt := s.presses[p].halt } =
      { s.presses[p] with state := .stuck, stuckCause := some .line, ejectT := none, debounce := 0,
                          cycle := s.presses[p].cycle.map (fun c => { c with lineLoss := true }) })

/-- No timer of the press runs (R115 step 1). -/
def Press.timersOff (q : Press) : Prop :=
  q.closeT = none ∧ q.dwellT = none ∧ q.holdT = none ∧ q.openT = none ∧ q.ejectT = none

/-- `t` is `s` after press `p` has been finalised into slot `n` and has entered `next` (R115, R136). -/
structure Finalised (s t : State) (p : PressNo) (n : SlotNo) (c : CycleRecord) (r : RecipeNo)
    (d : Disposition) (next : PressState) : Prop where
  state : t.presses[p].state = next
  gaveUp : t.presses[p].slot = none ∧ t.presses[p].cycle = none ∧ t.presses[p].hold = none
  timers : t.presses[p].timersOff
  record : ∃ x, RecordOf s p c r d x ∧ t.store.slots[n] = .stored x (freshDelivery s)
  counter : t.store.recordNo = s.store.recordNo + 1
  kept : t.store.chargeNo = s.store.chargeNo ∧ t.store.serial = s.store.serial
  otherSlots : ∀ m : SlotNo, m ≠ n → t.store.slots[m] = s.store.slots[m]
  otherPresses : ∀ q : PressNo, q ≠ p → t.presses[q] = s.presses[q]
  rest : { t.presses[p] with halt := s.presses[p].halt } =
    { s.presses[p] with state := next, slot := none, cycle := none, hold := none, closeT := none,
                        dwellT := none, holdT := none, openT := none, ejectT := none }

end Sys2Proof.Machine
end

