-- ==== Sys2Proof/WellFormed.lean ====
section
/-!
DEFINITION. What the operands of a command must satisfy beyond their types. `exec` is total and does not
need this: on other operands it does what the rules give for the symbols or bytes as they are.
-/

namespace Sys2Proof

/-- A symbol by which a frame in collection is complete: its end delimiter, or an idle symbol in place of
one (Table 6). -/
def Symbol.completes : Symbol → Bool
  | .idle => true
  | .startDelim => false
  | .endDelim => true
  | .data _ => false

/-- A symbol that continues a collection. -/
def Symbol.isData : Symbol → Bool
  | .idle => false
  | .startDelim => false
  | .endDelim => false
  | .data _ => true

/-- The data bytes of a frame followed by exactly one completing symbol, at the end. -/
def frameBody : List Symbol → Bool
  | [] => false
  | [x] => x.completes
  | x :: xs => x.isData && frameBody xs

/-- A run of symbols is one frame: a start delimiter, data bytes, and the symbol that completes it. -/
def frameRun : List Symbol → Bool
  | [] => false
  | x :: xs => (x == .startDelim) && frameBody xs

/-- The content of a table write leaves room for table and entry in the 62 argument bytes of an MREQ
(Table 105). -/
def contentFits (content : List Byte) : Bool := content.length ≤ 60

/-- The operands of a command are such as the line can carry. -/
def Instr.wellFormed : Instr → Bool
  | .uInFrame symbols => frameRun symbols
  | .dInFrame symbols => frameRun symbols
  | .tableWrite _ _ _ _ content => contentFits content
  | .tableWriteIfMarked _ _ _ _ content => contentFits content
  | .powerOn _ => true
  | .resetAssert => true
  | .dOutEnd => true
  | .uOutEnd => true
  | .controlPeriod => true
  | .guardSample _ => true
  | .guardLevelAccepted _ => true
  | .syncTimeout => true
  | .silenceTimeout => true
  | .censusWindowExpiry => true
  | .targetAgeExpiry _ => true
  | .weighSignalCheck => true
  | .chargeExpired _ => true
  | .closeTimerExpiry _ => true
  | .dwellTimerExpiry _ => true
  | .openHoldExpired _ => true
  | .openTimeout _ => true
  | .ejectTimerExpiry _ => true
  | .paceTimerExpiry => true
  | .longReadPart => true
  | .ident _ _ => true
  | .status _ _ => true
  | .counters _ _ => true
  | .noticeEnable _ _ _ => true
  | .tableRead _ _ _ _ _ => true
  | .tableReadMark _ _ _ _ => true
  | .modeRun _ _ => true
  | .modeStop _ _ _ => true
  | .restart _ _ => true
  | .censusStart _ _ => true
  | .pressAssign _ _ _ _ => true
  | .pressAbort _ _ _ => true
  | .pressScrap _ _ _ => true
  | .weighRecipe _ _ _ => true
  | .weighTare _ _ => true
  | .chargeDiscard _ _ _ => true
  | .drainStart _ _ _ _ => true
  | .drainStop _ _ => true
  | .release _ _ _ => true
  | .recordRead _ _ _ => true
  | .serialBase _ _ _ => true

end Sys2Proof
end

