-- ==== Sys2Proof/Certificates/Slice0/Obligations.lean ====
section
/-!
DEFINITION. The statements for the provers. Where a statement gives the state after a command as `t.kick`, `t`
is the command's own effect and `kick` the boundaries of the two out-halves at its end (R10, log 10), whose
grants `DOutRanks` and `UOutRanks` state and whose frame `BoundaryFrame` states.
-/

section

open Sys2Proof Sys2Proof.Machine

/-! ## Step, power-on and reset -/

/-- The step takes the command at the front of the queue and runs it on the state with the queue's rest. -/
def Obligations.StepTakesFrontCommand : Prop :=
  ∀ (c : Instr) (q : List Instr) (s : State), s.pending = c :: q → step s = exec c { s with pending := q }

/-- With no command waiting: nothing while RSTn is low; otherwise the events due now are queued, or, with none due,
the millisecond count moves on by one and what is due at it is queued; in groups that stay whole, in some order, with
only the queue and the free-value counter changed besides; several levels accepted at one sampling follow it in
ascending input number (the model's choice: logs 2, 3, 4, 5, 8 and 9). Due now: a control period, the acceptance of a
guard level, a part of a long read. Due at a millisecond: the sampling of the guard inputs with the levels it accepts
behind it; the expiry of each target above its age, that of WEIGH directly before the station's check, which is made
at every one (R36, R83); and each timer's expiry. -/
def Obligations.IdleStepQueuesWhatIsDue : Prop :=
  (∀ s : State, s.pending = [] →
    (s.rstn = false → step s = .next s) ∧
    (s.rstn = true → s.dueNow ≠ [] →
      ∃ (gs : List (List Instr)) (n : Nat), gs.Perm s.dueNow ∧
        step s = .next { s with pending := gs.flatten, freeCount := n }) ∧
    (s.rstn = true → s.dueNow = [] →
      ∃ (gs : List (List Instr)) (n : Nat), gs.Perm ({ s with now := s.now + 1 } : State).dueMillisecond ∧
        step s = .next { s with now := s.now + 1, pending := gs.flatten, freeCount := n })) ∧
  (∀ (s : State) (g : List Instr),
    let tooOld (t : TargetNo) : Prop := ∃ v a m, s.targets[t] = .fresh v a m ∧ m < (s.now - a).toNat
    (g ∈ s.dueNow ↔
      (s.periodDue = true ∧ g = [.controlPeriod]) ∨
      (∃ n : Fin 4, s.guard[n].due = true ∧ g = [.guardLevelAccepted n]) ∨
      (s.agent.responses.length < 3 ∧ (∃ (i : Fin 4) (c : Context), s.agent.contexts[i] = some c ∧ c.wait = 0) ∧
        g = [.longReadPart])) ∧
    (g ∈ s.dueMillisecond ↔
      (∃ (levels : BitVec 4) (ns : List (Fin 4)), levels = Config.guardPins s.freeCount ∧
        g = .guardSample levels :: ns.map .guardLevelAccepted ∧ ns.Pairwise (· < ·) ∧
        ∀ n : Fin 4, n ∈ ns ↔ s.guard[n].due = true ∨
          (s.guard[n].run = 2 ∧ s.guard[n].accepted ≠ if levels.getLsbD n then .open else .closed)) ∨
      (∃ t : TargetNo, t ≠ weighTarget ∧ tooOld t ∧ g = [.targetAgeExpiry t]) ∨
      (tooOld weighTarget ∧ g = [.targetAgeExpiry weighTarget, .weighSignalCheck]) ∨
      (¬tooOld weighTarget ∧ g = [.weighSignalCheck]) ∨
      (timerDue s.now s.sync.timer = true ∧ g = [.syncTimeout]) ∨
      (timerDue s.now s.loss.timer = true ∧ g = [.silenceTimeout]) ∨
      ((∃ w, s.census.phase = .window w ∧ timerDue s.now (some w) = true) ∧ g = [.censusWindowExpiry]) ∨
      (timerDue s.now s.pace = true ∧ g = [.paceTimerExpiry]) ∨
      (∃ e ∈ s.charges, (e.expiry - e.accepted).toNat ≤ (s.now - e.accepted).toNat ∧
        g = [.chargeExpired e.number]) ∨
      (∃ p : PressNo, (timerDue s.now s.presses[p].closeT = true ∧ g = [.closeTimerExpiry p]) ∨
        (timerDue s.now s.presses[p].dwellT = true ∧ g = [.dwellTimerExpiry p]) ∨
        (timerDue s.now s.presses[p].holdT = true ∧ g = [.openHoldExpired p]) ∨
        (timerDue s.now s.presses[p].openT = true ∧ g = [.openTimeout p]) ∨
        (timerDue s.now s.presses[p].ejectT = true ∧ g = [.ejectTimerExpiry p]))))

/-- R1: power-on reads the straps and gives the power-on state; RSTn low stops reception, guard samples and the
millisecond count, and its fall leaves both out-halves sending idle symbols. That a POWER_ON taken with RSTn high
gives the power-on state, and that RESET_ASSERT leaves every register but the two out-halves as it is until the
next power-on, is the model's choice (log 7). -/
def Obligations.PowerOnAndReset : Prop :=
  ∀ s : State,
    (∀ b : BitVec 3, exec (.powerOn b) s =
      .next { State.reset with own := 48 + b.setWidth 6, freeCount := s.freeCount, pending := s.pending }) ∧
    exec .resetAssert s = .next { s with rstn := false, line := { s.line with uOut := none, dOut := none } } ∧
    (s.rstn = false →
      (∀ x, exec (.uInFrame x) s = .next s) ∧ (∀ x, exec (.dInFrame x) s = .next s) ∧
      (∀ l, exec (.guardSample l) s = .next s) ∧ (s.pending = [] → step s = .next s))

/-- The power-on values that the rules give (R2, R8, R10, R13, R15, R17, R20, R24, R25, R35, R54, R55, R71, R92,
R94, R96, R98, R101, R106, R116, R118, R148, R151, R160, R165, R169, R171). -/
def Obligations.PowerOnValues : Prop :=
  let s := State.reset
  (s.now = 0 ∧ s.mode = .config ∧ s.pending = []) ∧
  (s.line.uChk.collecting = false ∧ s.line.dChk.collecting = false ∧ s.line.up = [] ∧ s.line.down = [] ∧
    s.line.release = [] ∧ s.line.burst = [] ∧ s.line.uOut = none ∧ s.line.dOut = none ∧ s.line.hold = .off) ∧
  (s.sync = { lost := true, timer := none } ∧
    s.loss = { lost := true, silence := true, burst := false, window := [], goodRun := 0, timer := none } ∧
    s.census.state = .idle ∧ s.census.verdict = none ∧ s.census.passLatch = false) ∧
  ((∀ i : Fin 64, s.tables.cht[i] = { node := 0, channel := 0, role := .none, index := 0, ageUnits := 10 }) ∧
    (∀ i : Fin 2, s.tables.lin[i] = List.replicate 13 { raw := 0, temp := 0 }) ∧
    (∀ i : Fin 4, s.tables.crt[i] = List.replicate 24 0) ∧ ∀ t : TargetNo, s.targets[t] = .unbound) ∧
  ((∀ z : ZoneNo, s.tables.zt[z] =
      { curve := 0, offset := 0, heater := 0, channel := 0, fallback := 0, grace := 0 }) ∧
    (∀ r : RecipeNo, s.tables.rt[r] =
      { setpoints := [0, 0, 0, 0, 0, 0], kp := 0, ki := 0, ceiling := 0, target := 0, tolLow := 0, tolHigh := 0,
        outTime := 1, cureTable := 0, threshold := 0, dwell := 0, openHold := 0,
        segMax := [0, 0, 0, 0, 0, 0, 0, 0], segLen := 100, peakLimit := 0, debounce := 1, retries := 0,
        overrideOk := false }) ∧
    (∀ p : PressNo, s.tables.pt[p] =
      { zones := [], closedAt := 0, openAt := 0, outAt := 0, homeAt := 0, ejector := 0, haltCode := 0,
        marker := 0, guardUsed := false, closeMs := 10000, openMs := 10000, ejectMs := 10000 }) ∧
    (∀ i : Fin 16, s.tables.gt[i] = { dest := 0, code := 0, cls := .none, press := 0 }) ∧
    s.tables.sys =
      { ctrldiv := 10, silenceMs := 20, syncMs := 100, censusMs := 5, censusRequired := true, weighZero := 0,
        weighGain := 4096, weighM := 8, weighBand := 5, weighEmpty := 50, recorder := 0, paceUnit := 1,
        paceFactor := 10, lowMark := 8, noticeDest := 0 }) ∧
  (∀ z : ZoneNo, s.zones[z].temp = none ∧ s.zones[z].cure = 0 ∧ s.zones[z].state = .unassigned ∧
    s.zones[z].integ = 0 ∧ s.zones[z].lastDuty = 0 ∧ s.zones[z].preset = 0 ∧
    s.zones[z].range = .none ∧ s.zones[z].cycMin = none ∧ s.zones[z].cycMax = none ∧
    s.zones[z].underSeen = false ∧ s.zones[z].overSeen = false ∧ s.zones[z].cureHot = false ∧
    s.zones[z].staleCount = 0 ∧ s.zones[z].sensorFault = false ∧ s.zones[z].staleSeen = false ∧
    s.zones[z].syncLost = false) ∧
  s.periodCount = 0 ∧
  (∀ p : PressNo, s.presses[p].state = .idle ∧ s.presses[p].recipe = none ∧ s.presses[p].slot = none ∧
    s.presses[p].cycle = none ∧ s.presses[p].hold = none ∧ s.presses[p].halt = .none ∧
    s.presses[p].timersOff ∧ s.presses[p].closed = none ∧ s.presses[p].dwellDone = false ∧
    s.presses[p].override = false ∧ s.presses[p].stroke = 0 ∧ s.presses[p].ejectStart = none ∧
    s.presses[p].debounce = 0 ∧ s.presses[p].peak = 0 ∧ s.presses[p].peakSeg = none ∧
    s.presses[p].peakStroke = none ∧ s.presses[p].stuckCause = none) ∧
  (∀ n : Fin 4, s.guard[n].accepted = .open ∧ s.guard[n].run = 0) ∧
  (s.weigh = { state := .off, window := [], recipe := none, last := none } ∧ s.charges = []) ∧
  ((∀ i : SlotNo, s.store.slots[i] = .free) ∧ s.store.recordNo = 1 ∧ s.store.chargeNo = 0 ∧
    s.store.serial = 1 ∧ s.drain0.running = false ∧ s.pace = none) ∧
  (s.agent.acc[(0 : Fin 4)] = some { addr := 0, level := .write } ∧
    (∀ i : Fin 4, i ≠ 0 → s.agent.acc[i] = none) ∧ s.agent.responses = [] ∧ s.agent.posted = [] ∧
    (∀ i : Fin 4, s.agent.contexts[i] = none ∧ s.agent.marks[i] = none) ∧ s.agent.turn = 0) ∧
  (s.notices.queue = [] ∧ s.notices.mask = BitVec.allOnes 24 ∧ s.notices.latches = .clear ∧
    ∀ c : Fin 12, s.notices.counters[c] = 0 ∧ s.notices.half[c] = false)

/-! ## Reception -/

/-- R3: a completed frame is framing-checked, then CRC-checked; each failed frame counts once on its port, is
dropped, and is seen besides by the loss watch on D-in alone; a good one is disposed of by its port. A frame cut
by an idle symbol or a start delimiter is a framing error (R2). That a bad frame on D-in is counted, with its
COUNTER_HALF, before the loss watch takes it is the model's choice (log 11). -/
def Obligations.ReceivedFramesAreChecked : Prop :=
  ∀ (bs : List Byte) (ended : Bool) (s : State), s.rstn = true →
    (s.line.uChk.collecting = false →
      exec (.uInFrame (.startDelim :: bs.map .data ++ [if ended then .endDelim else .idle])) s =
        .next (if framingError bs ended then s.uWait.count 1
          else if crc16 (bs.take (bs.length - 2)) = receivedCrc bs then s.uWait.uGood (receivedFrame bs)
          else s.uWait.count 0).kick ∧
      exec (.uInFrame (.startDelim :: bs.map .data ++ [.startDelim])) s =
        .next (({ s with line := { s.line with uChk := .started } }).count 1).kick) ∧
    (s.line.dChk.collecting = false →
      exec (.dInFrame (.startDelim :: bs.map .data ++ [if ended then .endDelim else .idle])) s =
        .next (if framingError bs ended then (s.dWait.count 4).lossBad
          else if crc16 (bs.take (bs.length - 2)) = receivedCrc bs then s.dWait.dFrame (.good (receivedFrame bs))
          else (s.dWait.count 3).lossBad).kick ∧
      exec (.dInFrame (.startDelim :: bs.map .data ++ [.startDelim])) s =
        .next ((({ s with line := { s.line with dChk := .started } }).count 4).lossBad).kick)

/-- Every frame with at most 64 payload bytes and the CRC of R4, sent as Table 103 lays it out, is received as
that frame on either port: no bit of a frame is dropped (R2 to R5). -/
def Obligations.SentFramesAreReadBack : Prop :=
  ∀ (f : Frame) (s : State), f.sound → s.rstn = true →
    (s.line.uChk.collecting = false →
      exec (.uInFrame (frameSymbols f.bytes)) s = .next (s.uWait.uGood f).kick) ∧
    (s.line.dChk.collecting = false →
      exec (.dInFrame (frameSymbols f.bytes)) s = .next (s.dWait.dFrame (.good f)).kick)

/-- A management row does exactly what the arrival of its MREQ on U-in does: the request frame of Tables 105
and 107, addressed to the own address (R150, R176; rows as requests are the model's reading: log 23). -/
def Obligations.RowsAreTheirRequestFrames : Prop :=
  ∀ (c : Instr) (s : State) (src : Addr) (tag code : Byte) (args : List Byte),
    requestOf c = some (src, tag, code, args) → c.wellFormed = true → s.rstn = true →
    s.line.uChk = Checker.reset →
    exec (.uInFrame (frameSymbols (buildFrame src s.own kindMreq ([tag, code] ++ args)).bytes)) s = exec c s

/-- R6: a good frame on U-in is disposed of by the first row of Table 9 that matches it; the sync watch takes a SYNC
before its disposal, so that SYNC_RESTORED comes before the OVERRUN or the COUNTER_HALF of the same frame (the
model's choice: log 11). A frame appended to the DOWN buffer joins its tail (R8); an overrun, on either port, sets
the latch, raises OVERRUN with its port and counts once on the port's counter, in that order (R9; log 11). -/
def Obligations.GoodFrameOnU : Prop :=
  (∀ (s : State) (f : Frame), s.pushDown f =
    { s with line := { s.line with
      down := s.line.down ++ [{ frame := f, strokeOf := none, awaitedBy := none, uncounted := false }] } }) ∧
  (∀ (s : State) (c : Fin 12) (port : Nat), c ≠ 11 →
    let latched : State := { s with notices := { s.notices with
      latches := { s.notices.latches with overrun := true } } }
    let t := s.overrun c port
    Only { notices := true } s t ∧ t = (latched.raise .overrun port 0).count c ∧
      t.notices.latches.overrun = true ∧ t.notices.counters[c] = min 255 (s.notices.counters[c] + 1)) ∧
  ∀ (s : State) (f : Frame),
    (f.dstAddr = s.own → f.kind = kindMreq → s.uGood f = s.takeMreq f) ∧
    (f.dstAddr = s.own → f.kind = kindSync → s.uGood f = s.syncArrival.count 1) ∧
    (f.dstAddr = s.own → f.kind ≠ kindMreq → f.kind ≠ kindSync → s.uGood f = s.count 1) ∧
    (f.dstAddr ≠ s.own → f.kind = kindSync →
      s.uGood f = if 8 ≤ s.line.down.length then s.syncArrival.overrun 2 0 else s.syncArrival.pushDown f) ∧
    (f.dstAddr ≠ s.own → f.kind = kindCmd →
      s.uGood f = if 8 ≤ s.line.down.length then s.overrun 2 0 else s.presentCmd f) ∧
    (f.dstAddr ≠ s.own → f.kind ≠ kindSync → f.kind ≠ kindCmd →
      s.uGood f = if 8 ≤ s.line.down.length then s.overrun 2 0 else s.pushDown f)

/-- R7: a good frame on D-in is disposed of by the first row of Table 10 that matches it, and feeds the loss
watch; a frame that needs an UP buffer place joins the tail, or is an overrun when 8 are held (R8, R9). That the
loss watch takes a good frame before its disposal, and that a wrong-side MREQ is counted before the loss watch takes
it as bad, is the model's choice (log 11). -/
def Obligations.GoodFrameOnD : Prop :=
  ∀ (s : State) (f : Frame),
    (f.dstAddr = s.own → f.kind = kindMreq → s.dFrame (.good f) = (s.count 4).lossBad) ∧
    (¬(f.dstAddr = s.own ∧ f.kind = kindMreq) →
      (f.kind = kindCens → (∃ t, s.census.phase = .window t) → s.census.todo.head? = some f.srcAddr →
        s.dFrame (.good f) = s.lossGood.censusNext true) ∧
      (f.kind = kindSamp → s.dFrame (.good f) = (s.lossGood.classify f).upTraffic f) ∧
      (f.kind ≠ kindSamp →
        (f.kind ≠ kindCens ∨ (∀ t, s.census.phase ≠ .window t) ∨ s.census.todo.head? ≠ some f.srcAddr) →
        s.dFrame (.good f) = s.lossGood.upTraffic f)) ∧
    (s.line.up.length < 8 → s.upTraffic f = { s with line := { s.line with up := s.line.up ++ [f] } }) ∧
    (8 ≤ s.line.up.length → s.upTraffic f = s.overrun 5 1)

/-! ## Notices and counters -/

/-- R166, R167 and R172. A raised notice is discarded when its kind is disabled, merged into the item equal to it,
appended when there is room, and otherwise dropped with the overflow latch set and the drop counted. A counter
moves up by one and saturates at 255, no other but the drop counter moves, and the step from 127 to 128 with the
half-mark flag clear sets the flag and raises COUNTER_HALF once. A new item has count 1 and the time it is raised
at; a merge adds one to the count of the item equal to it, up to 255, and keeps its first time and its place.
Counter 11 may move on by one more at its own half mark, where its COUNTER_HALF meets the full queue. -/
def Obligations.NoticesAndCounters : Prop :=
  (∀ (s : State) (k : NoticeKind) (subject detail : Nat),
    let it := newNotice s.now k subject detail
    let t := s.raise k subject detail
    Only { notices := true } s t ∧
    (s.notices.enabled k = false → t = s) ∧
    (s.notices.enabled k = true → s.notices.queue.any (fun x => x.same it) = true →
      t.notices = { s.notices with queue := mergeNotice s.notices.queue it }) ∧
    (s.notices.enabled k = true → s.notices.queue.any (fun x => x.same it) = false →
      s.notices.queue.length < 16 → t.notices = { s.notices with queue := s.notices.queue ++ [it] }) ∧
    (s.notices.enabled k = true → s.notices.queue.any (fun x => x.same it) = false →
      16 ≤ s.notices.queue.length →
      t.notices.queue.length = s.notices.queue.length ∧ t.notices.latches.overflow = true ∧
      min 255 (s.notices.counters[(11 : Fin 12)] + 1) ≤ t.notices.counters[(11 : Fin 12)] ∧
      (s.notices.atHalf 11 = false → t.notices = s.notices.drop)) ∧
    it = { kind := k, subject := BitVec.ofNat 8 subject, detail := BitVec.ofNat 16 detail, count := 1,
           first := s.now } ∧
    (∀ before after x, s.notices.queue = before ++ x :: after → s.notices.enabled k = true →
      (x.kind = k ∧ x.subject = BitVec.ofNat 8 subject ∧ x.detail = BitVec.ofNat 16 detail) →
      (∀ y ∈ before ++ after,
        y.kind ≠ k ∨ y.subject ≠ BitVec.ofNat 8 subject ∨ y.detail ≠ BitVec.ofNat 16 detail) →
      t.notices = { s.notices with queue := before ++ { x with count := min 255 (x.count + 1) } :: after })) ∧
  (∀ (s : State) (c : Fin 12),
    let t := s.count c
    Only { notices := true } s t ∧
    (c ≠ 11 ∨ s.notices.atHalf c = false → t.notices.counters[c] = min 255 (s.notices.counters[c] + 1)) ∧
    (c = 11 → s.notices.atHalf c = true → t.notices.counters[c] = 128 ∨ t.notices.counters[c] = 129) ∧
    (∀ k : Fin 12, k ≠ c → k ≠ 11 →
      t.notices.counters[k] = s.notices.counters[k] ∧ t.notices.half[k] = s.notices.half[k]) ∧
    (s.notices.atHalf c = false → t = s.updNotices (fun n => n.bump c)) ∧
    (s.notices.atHalf c = true → t.notices.half[c] = true ∧
      t = (s.updNotices (fun n => (n.bump c).markHalf c)).raise .counterHalf c.val 0))

/-! ## The out-halves -/

/-- R11: D-out, at a boundary, grants the highest-ranked ready source, and within each rank in the order of
Table 11: the lowest press's halt, which returns to NONE; the head of the burst; the head of the release list;
the probe; the DOWN buffer's head, which keeps its place; the oldest record owed to the recorder. A frame in
transmission is not interrupted. -/
def Obligations.DOutRanks : Prop :=
  ∀ s : State,
    (∀ x, s.line.dOut = some x → s.kickD = s) ∧
    (s.line.dOut = none →
      s.kickD.line.dOut.map (·.source) = ranksD.find? s.readyD ∧
      (∀ p f, s.presses[p].halt = .ready f → (∀ q : PressNo, q < p → s.presses[q].halt.ready? = none) →
        s.kickD = { s with presses := s.presses.set p { s.presses[p] with halt := .none },
                           line := { s.line with dOut := some { frame := f, source := .halt } } }) ∧
      (s.readyD .halt = false → ∀ f rest, s.line.burst = f :: rest →
        s.kickD = { s with line := { s.line with burst := rest, dOut := some { frame := f, source := .burst } } }) ∧
      (s.readyD .halt = false → s.line.burst = [] → ∀ x rest, s.line.release = x :: rest →
        s.kickD = { s with line := { s.line with release := rest,
                                                 dOut := some { frame := x.frame, source := .release } } }) ∧
      (s.readyD .halt = false → s.line.burst = [] → s.line.release = [] →
        ∀ a rest, s.census.phase = .pending → s.census.todo = a :: rest →
        s.kickD = { s with census := { s.census with phase := .sending },
                           line := { s.line with
                             dOut := some { frame := buildFrame s.own a kindCens [], source := .probe } } }) ∧
      (s.readyD .halt = false → s.line.burst = [] → s.line.release = [] → s.readyD .probe = false →
        ∀ d rest, s.line.down = d :: rest →
        s.kickD = { s with line := { s.line with dOut := some { frame := d.frame, source := .down } } }) ∧
      (s.readyD .halt = false → s.line.burst = [] → s.line.release = [] → s.readyD .probe = false →
        s.line.down = [] → s.tables.sys.recorder ≠ 0 → s.pace = none →
        ∀ i r d, s.store.next1 = some i → s.store.slots[i] = .stored r d →
        s.kickD = { s with
          store := { s.store with
            slots := s.store.slots.set i (Slot.stored r { d with delivered1 := true }).settle },
          line := { s.line with
            dOut := some { frame := s.histFrame s.tables.sys.recorder r, source := .drain1 } } }))

/-- R14, R15 and R142. With no block-drain hold in force U-out grants in the order of Table 12; a HIST grant marks its
record delivered and counts it (R141), and puts a BLOCK run under the hold; a run with nothing to deliver ends DRY
before the grant; a frame in transmission is not interrupted. Under the hold the boundary follows Table 13, and the
hold returns to OFF when the run ends. -/
def Obligations.UOutGrants : Prop :=
  (∀ s : State,
    (∀ x, s.line.uOut = some x → s.kickU = s) ∧
    (s.line.uOut = none → s.runDry = true → s.kickU = (s.endRun .dry).kickU) ∧
    (s.line.uOut = none → s.runDry = false → s.line.hold = .off →
      s.kickU.line.uOut.map (·.source) = ranksU.find? s.readyU ∧
      (∀ f rest, s.line.up = f :: rest →
        s.kickU = { s with line := { s.line with uOut := some { frame := f, source := .up } } }) ∧
      (s.line.up = [] → ∀ f rest, s.agent.responses = f :: rest →
        s.kickU = { s with line := { s.line with uOut := some { frame := f, source := .response } } }) ∧
      (s.line.up = [] → s.agent.responses = [] → ∀ n rest, s.notices.queue = n :: rest →
        s.kickU = { s with
          notices := { s.notices with queue := rest },
          line := { s.line with uOut := some {
            frame := buildFrame s.own s.tables.sys.noticeDest kindNote (notePayload n), source := .notice } } }) ∧
      (s.line.up = [] → s.agent.responses = [] → s.notices.queue = [] →
        ∀ i r d a, s.ready0 = some i → s.store.slots[i] = .stored r d → s.drain0.dest = some a →
        s.kickU = { s with
          store := { s.store with slots := s.store.slots.set i (.stored r { d with delivered0 := true }) },
          drain0 := { s.drain0 with remaining := s.drain0.remaining - 1, delivered := s.drain0.delivered + 1 },
          line := { s.line with uOut := some { frame := s.histFrame a r, source := .drain0 },
                                hold := if s.drain0.mode = some .block then .held else .off } }))) ∧
  (∀ s : State, s.line.uOut = none → s.runDry = false →
    (s.line.hold = .held → ∀ f rest, s.line.up = f :: rest → 6 ≤ s.line.up.length →
      s.kickU = { s with line := { s.line with uOut := some { frame := f, source := .up }, hold := .yielded } }) ∧
    (s.line.hold = .held → s.line.up.length < 6 → s.readyU .drain0 = true →
      s.kickU.line.uOut.map (·.source) = some .drain0 ∧ s.kickU.line.hold = .held) ∧
    (∀ i r d a, s.ready0 = some i → s.store.slots[i] = .stored r d → s.drain0.dest = some a →
      (s.line.hold = .held ∧ s.line.up.length < 6) ∨ (s.line.hold = .yielded ∧ s.line.up = []) →
      s.kickU = { s with
        store := { s.store with slots := s.store.slots.set i (.stored r { d with delivered0 := true }) },
        drain0 := { s.drain0 with remaining := s.drain0.remaining - 1, delivered := s.drain0.delivered + 1 },
        line := { s.line with uOut := some { frame := s.histFrame a r, source := .drain0 }, hold := .held } }) ∧
    (s.line.hold = .yielded → ∀ f rest, s.line.up = f :: rest →
      s.kickU = { s with line := { s.line with uOut := some { frame := f, source := .up } } }) ∧
    (s.line.hold = .yielded → s.line.up = [] → s.readyU .drain0 = true →
      s.kickU.line.uOut.map (·.source) = some .drain0 ∧ s.kickU.line.hold = .held) ∧
    (∀ c, (s.endRun c).line.hold = .off))

/-- What the boundaries at the end of a command leave alone: buffers, checkers, and all of a press but a READY halt,
which is granted. Release list and burst stay as they are or lose the head that is granted. No slot changes but the
one granted to a drain channel: its record is marked delivered on that channel, and is freed only by channel 1's
grant, when it is released (R10, R138, R141, R144). -/
def Obligations.BoundaryFrame : Prop :=
  ∀ s : State,
    let t := s.kick
    Only { line := true, presses := true, store := true, census := true, drain0 := true, notices := true } s t ∧
    (t.line.uChk = s.line.uChk ∧ t.line.dChk = s.line.dChk ∧ t.line.up = s.line.up ∧
      t.line.down = s.line.down) ∧
    (t.line.release = s.line.release ∨ t.line.release = s.line.release.tail) ∧
    (t.line.burst = s.line.burst ∨ t.line.burst = s.line.burst.tail) ∧
    (∀ p : PressNo, { t.presses[p] with halt := s.presses[p].halt } = s.presses[p] ∧
      (t.presses[p].halt = s.presses[p].halt ∨
        (t.presses[p].halt = .none ∧ ∃ f, s.presses[p].halt = .ready f))) ∧
    { t.census with phase := s.census.phase } = s.census ∧
    (t.census.phase = s.census.phase ∨ (s.census.phase = .pending ∧ t.census.phase = .sending)) ∧
    (t.store.recordNo = s.store.recordNo ∧ t.store.chargeNo = s.store.chargeNo ∧
      t.store.serial = s.store.serial) ∧
    (∀ i : SlotNo, s.ready1 ≠ some i → s.kickD.ready0 ≠ some i → t.store.slots[i] = s.store.slots[i]) ∧
    (∀ i : SlotNo, t.store.slots[i] = s.store.slots[i] ∨ ∃ r d, s.store.slots[i] = .stored r d ∧
      ((∃ d', t.store.slots[i] = .stored r d' ∧ d'.released = d.released ∧ d'.owed1 = d.owed1 ∧
          (d'.delivered0 = d.delivered0 ∨ (s.kickD.ready0 = some i ∧ d'.delivered0 = true)) ∧
          (d'.delivered1 = d.delivered1 ∨ (s.ready1 = some i ∧ d'.delivered1 = true))) ∨
        (t.store.slots[i] = .free ∧ d.released = true ∧ s.ready1 = some i)))

/-- R10: in every state the steps keep, an out-half of a part whose RSTn is high idles only when none of its
sources is ready. -/
def Obligations.OutHalvesServeReadySources : Prop :=
  ∀ s t : State, s.Served → step s = .next t → t.Served

/-- At the end of a transmission on U-out the head of the UP buffer or of the response queue leaves (R8, R153), a
NOTE has left already (R168), and a run whose count is exhausted ends with cause COUNT (R142). At the end of one
on D-out: the DOWN buffer's head leaves and the
halt that waits for it becomes READY (R8, R125); a probe's answer window opens unless the census was abandoned
(R22, R24); channel 1's pace timer starts, and the caught-up latch is set with no next record (R144, R145). At the
departure of a SYNC in RUN the burst built from the state as it stands becomes pending, and a departure in RUN with
SYNC_OK is counted, the CTRLDIV-th making a control period due and returning the count to 0 (R12, R16, R59, R60), but
for that of a SYNC marked as waiting when the watch entered SYNC_LOST, which leaves the count as it stands (R59). A
halt that no longer waits is left as it is. The model's choices here: the period is then a command of its own, and one
still due is taken first (log 8); the pace timer starts also where the recorder address was cleared while the frame was
being sent (log 25). -/
def Obligations.TransmissionEnds : Prop :=
  (∀ (s : State) (f : Frame) (x : USource), s.rstn = true → s.line.uOut = some { frame := f, source := x } →
    let s0 : State := { s with line := { s.line with uOut := none } }
    (x = .up → exec .uOutEnd s = .next ({ s0 with line := { s0.line with up := s.line.up.tail } } : State).kick) ∧
    (x = .response → exec .uOutEnd s =
      .next ({ s0 with agent := { s0.agent with responses := s.agent.responses.tail } } : State).kick) ∧
    (x = .notice → exec .uOutEnd s = .next s0.kick) ∧
    (x = .drain0 → s.drain0.running = true → s.drain0.remaining = 0 → exec .uOutEnd s =
      .next (s0.endRun .count).kick) ∧
    (x = .drain0 → s.drain0.running = false ∨ s.drain0.remaining ≠ 0 → exec .uOutEnd s = .next s0.kick)) ∧
  (∀ (s : State) (f : Frame) (x : DSource), s.rstn = true → s.line.dOut = some { frame := f, source := x } →
    let s0 : State := { s with line := { s.line with dOut := none } }
    (x = .halt ∨ x = .burst ∨ x = .release → exec .dOutEnd s = .next s0.kick) ∧
    (x = .probe → s.census.phase = .sending → exec .dOutEnd s =
      .next ({ s0 with census := { s0.census with
        phase := .window { start := s.now, dur := s.tables.sys.censusMs } } } : State).kick) ∧
    (x = .probe → s.census.phase ≠ .sending → exec .dOutEnd s = .next s0.kick) ∧
    (x = .down → ∀ d rest, s.line.down = d :: rest → d.frame.kind ≠ kindSync →
      let s1 : State := { s0 with line := { s0.line with down := rest } }
      (d.awaitedBy = none → exec .dOutEnd s = .next s1.kick) ∧
      (∀ p g, d.awaitedBy = some p → s.presses[p].halt = .waiting g → exec .dOutEnd s =
        .next ({ s1 with presses := s1.presses.set p { s.presses[p] with halt := .ready g } } : State).kick) ∧
      (∀ p, d.awaitedBy = some p → (∀ g, s.presses[p].halt ≠ .waiting g) → exec .dOutEnd s = .next s1.kick)) ∧
    (x = .drain1 →
      let s1 : State := { s0 with pace := some { start := s.now,
                                                 dur := s.tables.sys.paceUnit * s.tables.sys.paceFactor } }
      (s.store.next1.isSome = true → exec .dOutEnd s = .next s1.kick) ∧
      (s.store.next1 = none → exec .dOutEnd s =
        .next (s1.updLatches (fun l => { l with caughtUp := true })).kick))) ∧
  (∀ (s : State) (f : Frame) (d : DownItem) (rest : List DownItem), s.rstn = true →
    s.line.dOut = some { frame := f, source := .down } → s.line.down = d :: rest → d.frame.kind = kindSync →
    d.awaitedBy = none →
    let sent : State := { s with line := { s.line with dOut := none, down := rest } }
    let s1 : State := if s.periodDue = true then sent.runPeriod else sent
    let s2 : State := { s1 with line := { s1.line with burst := s1.buildBurst } }
    (s.mode = .config → exec .dOutEnd s = .next s1.kick) ∧
    (s.mode = .run → s.sync.lost = true ∨ d.uncounted = true → exec .dOutEnd s = .next s2.kick) ∧
    (s.mode = .run → s.sync.lost = false → d.uncounted = false →
      (s.periodCount + 1 = s.tables.sys.ctrldiv →
        exec .dOutEnd s = .next ({ s2 with periodCount := 0, periodDue := true } : State).kick) ∧
      (s.periodCount + 1 ≠ s.tables.sys.ctrldiv →
        exec .dOutEnd s = .next ({ s2 with periodCount := s.periodCount + 1 } : State).kick)))


/-! ## The watches and the census -/

/-- R17: the sync timer's expiry moves the watch to SYNC_LOST with no timer running, raises SYNC_LOSS, sets its latch,
flags the zones of every CURING press (R67), and marks each SYNC in the DOWN buffer, so that its departure is
uncounted (R59); that the one being sent is marked with the others, and that a control period that is due is taken
first, is the model's choice (logs 26 and 8). A good SYNC restarts the timer with the timeout in SYS and raises
SYNC_RESTORED from SYNC_LOST. -/
def Obligations.SyncWatch : Prop :=
  ∀ s : State, s.rstn = true →
    (timerDue s.now s.sync.timer = false → exec .syncTimeout s = .next s.kick) ∧
    (timerDue s.now s.sync.timer = true → s.periodDue = true →
      exec .syncTimeout s = exec .syncTimeout s.runPeriod) ∧
    (timerDue s.now s.sync.timer = true → s.periodDue = false →
      ∃ t, exec .syncTimeout s = .next t.kick ∧
        Only { sync := true, zones := true, line := true, notices := true } s t ∧
        t.sync = { lost := true, timer := none } ∧
        t.line = { s.line with
          down := s.line.down.map (fun d => if d.frame.kind = kindSync then { d with uncounted := true } else d) } ∧
        t.notices = ((s.raise .syncLoss 0 0).updLatches (fun l => { l with syncLoss := true })).notices ∧
        (∀ (p : PressNo) (z : ZoneNo), s.presses[p].state = .curing → z ∈ s.tables.pt[p].zones →
          t.zones[z] = { s.zones[z] with syncLost := true }) ∧
        (∀ z : ZoneNo, (∀ p : PressNo, s.presses[p].state = .curing → z ∉ s.tables.pt[p].zones) →
          t.zones[z] = s.zones[z])) ∧
    (s.syncArrival.sync = { lost := false, timer := some { start := s.now, dur := s.tables.sys.syncMs } } ∧
      Only { sync := true, notices := true } s s.syncArrival ∧
      s.syncArrival.notices = if s.sync.lost then (s.raise .syncRestored 0 0).notices else s.notices)

/-- R18 to R20. The window keeps the last 16 outcomes; a bad frame sets the good run to 0; 8 bad outcomes after a bad
frame, or the silence timer's expiry, declare the loss in D_OK, with its cause and latch, and add the cause in D_LOST.
The declaration raises LINE_LOSS_D with port D and its cause, before the notices of the strokes it stops (that order
is the model's choice: log 11); an added cause raises nothing. The move to D_LOST stops every stroke (R124). A good
frame restarts the silence timer and counts the good run to 4, where it holds; in D_LOST a good run of 4 returns the
watch to D_OK with no cause and an empty window and raises LINE_RESTORED_D. -/
def Obligations.LossWatch : Prop :=
  (∀ s : State,
    let w := (s.loss.window ++ [false]).rtake 16
    let bad := (w.filter (fun b => !b)).length
    let stops (u : State) : State := allPresses.foldl (fun x p =>
      if s.presses[p].state = .ejecting then
        (x.raise .pressState p.val PressState.stuck.code).raise .ejectStuck p.val StuckCause.line.code
      else x) u
    (bad < 8 → s.lossBad = { s with loss := { s.loss with window := w, goodRun := 0 } }) ∧
    (8 ≤ bad → s.lossBad.notices.latches.errorBurst = true ∧
      (s.loss.lost = true → Only { loss := true, notices := true } s s.lossBad ∧
        s.lossBad.loss = { s.loss with window := w, goodRun := 0, burst := true } ∧
        s.lossBad.notices = { s.notices with latches := { s.notices.latches with errorBurst := true } }) ∧
      (s.loss.lost = false → LossStops s s.lossBad ∧
        s.lossBad.notices = (stops ((s.raise .lineLossD 1 1).updLatches
          (fun l => { l with errorBurst := true }))).notices ∧
        s.lossBad.loss = { s.loss with lost := true, silence := false, burst := true, window := w,
                                       goodRun := 0 })) ∧
    (s.rstn = true → timerDue s.now s.loss.timer = false → exec .silenceTimeout s = .next s.kick) ∧
    (s.rstn = true → timerDue s.now s.loss.timer = true →
      ∃ t, exec .silenceTimeout s = .next t.kick ∧ t.notices.latches.silence = true ∧
        (s.loss.lost = true → Only { loss := true, notices := true } s t ∧
          t.loss = { s.loss with silence := true, timer := none } ∧
          t.notices = { s.notices with latches := { s.notices.latches with silence := true } }) ∧
        (s.loss.lost = false → LossStops s t ∧
          t.notices = (stops ((s.raise .lineLossD 1 0).updLatches (fun l => { l with silence := true }))).notices ∧
          t.loss = { s.loss with lost := true, silence := true, burst := false, goodRun := 0, timer := none }))) ∧
  (∀ s : State,
    let run := min 4 (s.loss.goodRun + 1)
    let timer : Option Timer := some { start := s.now, dur := s.tables.sys.silenceMs }
    (s.loss.lost = true → run = 4 → s.lossGood =
      ({ s with loss := { lost := false, silence := false, burst := false, window := [], goodRun := 4,
                          timer := timer } } : State).raise .lineRestoredD 1 0) ∧
    (s.loss.lost = false ∨ run ≠ 4 → s.lossGood =
      { s with loss := { s.loss with window := (s.loss.window ++ [true]).rtake 16, goodRun := run,
                                     timer := timer } }))

/-- R21: CENSUS START, refused in RUN and while RUNNING, discards the result, clears the latch and lists, once each
and ascending, every node address from 1 to 47 the tables name; with none the census completes with PASS. -/
def Obligations.CensusStart : Prop :=
  ∀ (s : State) (src : Addr) (tag : Byte) (i : Fin 4), s.serves src i true = true →
    (s.mode = .run →
      exec (.censusStart src tag) s = .next (s.answered (errFrame s.own src tag 12 4 [])).kick) ∧
    (s.mode = .config → s.census.state = .running →
      exec (.censusStart src tag) s = .next (s.answered (errFrame s.own src tag 12 2 [])).kick) ∧
    (s.mode = .config → s.census.state ≠ .running →
      ∃ nodes : List Addr, nodes.Pairwise (fun a b => a.toNat < b.toNat) ∧
        (∀ a : Addr, a ∈ nodes ↔ 1 ≤ a.toNat ∧ a.toNat ≤ 47 ∧
          ((∃ k : Fin 64, s.tables.cht[k].role ≠ .none ∧ s.tables.cht[k].node = a) ∨
            (∃ z : ZoneNo, s.tables.zt[z].heater = a) ∨
            (∃ p : PressNo, s.tables.pt[p].marker = a ∨ s.tables.pt[p].ejector = a) ∨
            (∃ k : Fin 16, s.tables.gt[k].dest = a) ∨ s.tables.sys.recorder = a)) ∧
        (nodes ≠ [] → exec (.censusStart src tag) s =
          .next (({ s with census :=
            { state := .running, phase := .pending, todo := nodes, expected := nodes.length, missing := [],
              dirty := false, verdict := none, passLatch := false } } : State).answered
                (okFrame s.own src tag 12 [])).kick) ∧
        (nodes = [] → exec (.censusStart src tag) s =
          .next ((({ s with census :=
            { state := .done, phase := .none, todo := [], expected := 0, missing := [], dirty := false,
              verdict := some .pass, passLatch := true } } : State).raise .censusDone 0 0).answered
                (okFrame s.own src tag 12 [])).kick))

/-- R22 and R23: a window that runs out marks the node in hand missing, and one answered marks it present; the
next probe becomes pending, or, after the last, the census is DONE with its verdict, raising CENSUS_DONE. A PASS
sets the latch unless a relevant write was taken during the run; a FAIL clears it (R24). -/
def Obligations.CensusWindow : Prop :=
  ∀ (s : State) (a : Addr) (rest : List Addr), s.rstn = true → s.census.todo = a :: rest →
    (s.windowDue = false → exec .censusWindowExpiry s = .next s.kick) ∧
    (s.windowDue = true → rest ≠ [] → exec .censusWindowExpiry s =
      .next ({ s with census := { s.census with phase := .pending, todo := rest,
                                                missing := s.census.missing ++ [a] } } : State).kick) ∧
    (s.windowDue = true → rest = [] → exec .censusWindowExpiry s =
      .next (({ s with census := { s.census with
          state := .done, phase := .none, todo := [], missing := s.census.missing ++ [a], verdict := some .fail,
          passLatch := false } } : State).raise .censusDone (s.census.missing.length + 1) 1).kick) ∧
    (rest ≠ [] → s.censusNext true = { s with census := { s.census with phase := .pending, todo := rest } }) ∧
    (rest = [] → s.census.missing ≠ [] → s.censusNext true =
      ({ s with census := { s.census with state := .done, phase := .none, todo := [], verdict := some .fail,
                                          passLatch := false } } : State).raise
        .censusDone s.census.missing.length 1) ∧
    (rest = [] → s.census.missing = [] → s.census.dirty = false → s.censusNext true =
      ({ s with census := { s.census with state := .done, phase := .none, todo := [], verdict := some .pass,
                                          passLatch := true } } : State).raise .censusDone 0 0) ∧
    (rest = [] → s.census.missing = [] → s.census.dirty = true →
      (s.censusNext true).census.verdict = some .pass ∧
      (s.censusNext true).census.passLatch = s.census.passLatch)

/-- R24: the census pass latch is set only by a census that ends with PASS, with no relevant write taken while it
ran: on an answer received on D-in, or at a CENSUS START with nobody to probe, as a row or as the request on U-in
that a symbol completes; no other frame on U-in sets it. -/
def Obligations.PassLatchSetOnlyByCensus : Prop :=
  ∀ (c : Instr) (s t : State), exec c s = .next t → s.census.passLatch = false → t.census.passLatch = true →
    let passed (u : State) : Prop :=
      u.census.passLatch = true ∧ u.census.state = .done ∧ u.census.verdict = some .pass ∧ u.census.missing = [] ∧
        u.census.dirty = false
    (((∃ x, c = .dInFrame x) ∨ (∃ src tag, c = .censusStart src tag)) ∧ passed t) ∨
    (∃ before y after, c = .uInFrame (before ++ y :: after) ∧
      (before.foldl State.uSymbol s).completesRequest y 12 [] ∧ passed ((before ++ [y]).foldl State.uSymbol s))

/-! ## The command gate -/

/-- R99, R100, R103 and R111. A CMD without an active gate entry is forwarded; a broadcast of a gated code is refused
BROADCAST for the lowest such entry's press; a gated command is refused CONFIG out of RUN and NOT_READY for an IDLE
press; then Table 61 decides: CLOSE by the four checks of R103 in their order, OPEN and EJECT refused STATE out of
their states, EJECT refused with the guard open and, in STUCK, with every retry used. A refusal changes the notice
unit alone, GATE_REFUSED before the COUNTER_HALF of its counter (the model's choice: log 11). -/
def Obligations.GateLookupAndRefusals : Prop :=
  (∀ (s : State) (f : Frame),
    (f.payload = [] → s.presentCmd f = s.pushDown f) ∧
    (∀ code args, f.payload = code :: args → f.dstAddr = 63 →
      ((∀ i : Fin 16, s.tables.gt[i].cls ≠ .none → s.tables.gt[i].code ≠ code) →
        s.presentCmd f = s.pushDown f) ∧
      (∀ i : Fin 16, s.tables.gt[i].cls ≠ .none → s.tables.gt[i].code = code →
        (∀ j : Fin 16, j < i → s.tables.gt[j].cls ≠ .none → s.tables.gt[j].code ≠ code) →
        s.presentCmd f = s.refuse s.tables.gt[i].press .broadcast)) ∧
    (∀ code args, f.payload = code :: args → f.dstAddr ≠ 63 →
      ((∀ i : Fin 16, s.tables.gt[i].cls ≠ .none → s.tables.gt[i].dest = f.dstAddr →
          s.tables.gt[i].code ≠ code) → s.presentCmd f = s.pushDown f) ∧
      (∀ i : Fin 16, s.tables.gt[i].cls ≠ .none → s.tables.gt[i].dest = f.dstAddr → s.tables.gt[i].code = code →
        (∀ j : Fin 16, j < i → s.tables.gt[j].cls ≠ .none → s.tables.gt[j].dest = f.dstAddr →
          s.tables.gt[j].code ≠ code) →
        (s.mode = .config → s.presentCmd f = s.refuse s.tables.gt[i].press .config) ∧
        (s.mode = .run → s.presses[s.tables.gt[i].press].state = .idle →
          s.presentCmd f = s.refuse s.tables.gt[i].press .notReady))) ∧
    (∀ (p : PressNo) (c : RefusalCause), Only { notices := true } s (s.refuse p c) ∧
      s.refuse p c = (s.raise .gateRefused p.val c.code).count 6)) ∧
  (∀ (s : State) (f : Frame) (p : PressNo),
    (Gated s f .close p →
      (s.presses[p].state ≠ .ready → s.presentCmd f = s.refuse p .state) ∧
      (s.presses[p].state = .ready →
        (s.guardIsOpen p → s.presentCmd f = s.refuse p .guard) ∧
        (¬s.guardIsOpen p → s.sync.lost = true → s.presentCmd f = s.refuse p .syncLost) ∧
        (¬s.guardIsOpen p → s.sync.lost = false → (∃ x ∈ s.line.release, x.press = p) →
          s.presentCmd f = s.refuse p .pending) ∧
        (¬s.guardIsOpen p → s.sync.lost = false → (∀ x ∈ s.line.release, x.press ≠ p) →
          (∀ e ∈ s.charges, s.presses[p].recipe ≠ some e.recipe) → s.presentCmd f = s.refuse p .noCharge))) ∧
    (Gated s f .open p → s.presses[p].state ≠ .curing → s.presses[p].state ≠ .cured →
      s.presentCmd f = s.refuse p .state) ∧
    (Gated s f .eject p →
      (s.presses[p].state ≠ .opened → s.presses[p].state ≠ .stuck → s.presentCmd f = s.refuse p .state) ∧
      (s.presses[p].state = .opened → s.guardIsOpen p → s.presentCmd f = s.refuse p .guard) ∧
      (s.presses[p].state = .stuck → s.guardIsOpen p → s.presentCmd f = s.refuse p .guard) ∧
      (∀ n c r, s.carries p n c r = true → s.presses[p].state = .stuck → ¬s.guardIsOpen p →
        c.retries = s.tables.rt[r].retries → s.presentCmd f = s.refuse p .retries)))

/-- R103 and R89: a CLOSE that passes its checks takes the oldest charge of the press's recipe with its slot, opens
the cycle record, clears the cycle fields of the press and of its zones, forwards the frame, starts the close timer
and enters CLOSING; nothing else changes. -/
def Obligations.CloseBeginsCycle : Prop :=
  ∀ (s : State) (f : Frame) (p : PressNo) (r : RecipeNo) (before after : List ChargeEntry) (e : ChargeEntry),
    Gated s f .close p → s.presses[p].state = .ready → s.presses[p].recipe = some r →
    ¬s.guardIsOpen p → s.sync.lost = false → (∀ x ∈ s.line.release, x.press ≠ p) →
    s.charges = before ++ e :: after → e.recipe = r → (∀ x ∈ before, x.recipe ≠ r) →
    let t := s.presentCmd f
    Only { charges := true, presses := true, store := true, zones := true, line := true, notices := true } s t ∧
    t.charges = before ++ after ∧
    t.store = { s.store with slots := s.store.slots.set e.slot (.reserved (.press p)) } ∧
    t.line = { s.line with
      down := s.line.down ++ [{ frame := f, strokeOf := none, awaitedBy := none, uncounted := false }] } ∧
    t.notices = (s.raise .pressState p.val 2).notices ∧
    t.presses = s.presses.set p { s.presses[p] with
      state := .closing, slot := some e.slot, closed := none, dwellDone := false, override := false, stroke := 0,
      ejectStart := none, peak := 0, peakSeg := none, peakStroke := none, stuckCause := none,
      closeT := some { start := s.now, dur := s.tables.pt[p].closeMs },
      cycle := some {
        zoneCount := s.tables.pt[p].zones.length, chargeNo := e.number, weight := e.weight, dev := e.dev,
        age := min 65534 ((s.now - e.accepted).toNat / 1000), cureTime := none, serial := none, retries := 0,
        guardOpened := false, closeTimeout := false, openTimeout := false, lineLoss := false } } ∧
    (∀ z : ZoneNo, z ∉ s.tables.pt[p].zones → t.zones[z] = s.zones[z]) ∧
    (∀ z ∈ s.tables.pt[p].zones, t.zones[z] = { s.zones[z] with
      cure := 0, cycMin := none, cycMax := none, underSeen := false, overSeen := false, cureHot := false,
      staleSeen := false, sensorFault := false, syncLost := false })

/-- R108 to R110: an OPEN in CURED is forwarded; in CURING an honoured override (flag and recipe) is forwarded as
one event; otherwise it is held whole if the hold slot is empty, with the hold timer where the recipe has one, and
dropped and counted if not. -/
def Obligations.OpenInCuringAndCured : Prop :=
  ∀ (s : State) (f : Frame) (p : PressNo) (r : RecipeNo), Gated s f .open p → s.presses[p].recipe = some r →
    let honoured := (f.payload.getD 1 0).getLsbD 0 = true ∧ s.tables.rt[r].overrideOk = true
    let openT : Option Timer := some { start := s.now, dur := s.tables.pt[p].openMs }
    let sent : State := { s with line := { s.line with
      down := s.line.down ++ [{ frame := f, strokeOf := none, awaitedBy := none, uncounted := false }] } }
    (s.presses[p].state = .cured →
      s.presentCmd f = sent.moved p { s.presses[p] with state := .opening, openT := openT }) ∧
    (s.presses[p].state = .curing → honoured →
      s.presentCmd f = sent.moved p { s.presses[p] with
        state := .opening, openT := openT, hold := none, holdT := none, override := true, dwellT := none }) ∧
    (s.presses[p].state = .curing → ¬honoured → s.presses[p].hold = none →
      s.presentCmd f = ({ s with presses := s.presses.set p { s.presses[p] with
        hold := some f,
        holdT := if s.tables.rt[r].openHold = 0 then none
          else some { start := s.now, dur := 1000 * s.tables.rt[r].openHold } } } : State).raise .openHeld p.val 0) ∧
    (s.presses[p].state = .curing → ¬honoured → s.presses[p].hold ≠ none → s.presentCmd f = s.count 7)

/-- R111 and R120: an EJECT in OPENED, or in STUCK with a retry left (which is then used), is forwarded as the one
that began the stroke and starts the stroke: one more, started now, debounce 0, no cause, eject timer running. In
D_LOST the press goes on to STUCK with cause LINE and a halt waiting behind that EJECT (R125). -/
def Obligations.EjectStartsStroke : Prop :=
  ∀ (s : State) (f : Frame) (p : PressNo) (n : SlotNo) (c : CycleRecord) (r : RecipeNo) (k : Nat),
    Gated s f .eject p → s.carries p n c r = true → ¬s.guardIsOpen p →
    (s.presses[p].state = .opened ∧ k = c.retries) ∨
      (s.presses[p].state = .stuck ∧ c.retries ≠ s.tables.rt[r].retries ∧ k = c.retries + 1) →
    let stroke : Press := { s.presses[p] with
      state := .ejecting, stroke := s.presses[p].stroke + 1, ejectStart := some s.now, debounce := 0,
      stuckCause := none, ejectT := some { start := s.now, dur := s.tables.pt[p].ejectMs },
      cycle := some { c with retries := k } }
    let older := s.line.down.map (fun d => if d.strokeOf = some p then { d with strokeOf := none } else d)
    let t : State := ({ s with line := { s.line with
      down := older ++ [{ frame := f, strokeOf := some p, awaitedBy := none, uncounted := false }] } } : State).moved p stroke
    (s.loss.lost = false → s.presentCmd f = t) ∧
    (s.loss.lost = true → s.presentCmd f = t.enterStuck p .line ∧ (s.presentCmd f).presses[p].state = .stuck ∧
      ∃ g, (s.presentCmd f).presses[p].halt = .waiting g)

/-! ## Press timers, readings and strokes -/

/-- R106 and R107: the CURED test is met in CURING with the dwell mark set and every zone of the press at its
threshold; then the cure time is recorded and the press enters CURED, and a held OPEN is released in the same
event: release list, OPEN_RELEASED, open timer, OPENING. The dwell timer's expiry sets the mark and makes it. -/
def Obligations.CuredAndDwell : Prop :=
  ∀ (s : State) (p : PressNo) (r : RecipeNo), s.presses[p].recipe = some r →
    let met := s.presses[p].state = .curing ∧ s.presses[p].dwellDone = true ∧
      ∀ z ∈ s.tables.pt[p].zones, s.tables.rt[r].threshold ≤ s.zones[z].cure
    let q : Press := { s.presses[p] with
      state := .cured, dwellT := none,
      cycle := s.presses[p].cycle.map (fun c =>
        { c with cureTime := s.presses[p].closed.map (fun t => min 65534 ((s.now - t).toNat / 1000)) }) }
    let cured := s.moved p q
    (¬met → s.testCured p = s) ∧
    (met → s.presses[p].hold = none → s.testCured p = cured) ∧
    (∀ f, met → s.presses[p].hold = some f → s.testCured p =
      (({ cured with line := { cured.line with
          release := s.line.release ++ [{ press := p, kind := .openCmd, frame := f }] } } : State).raise
            .openReleased p.val 0).moved p
        { q with state := .opening, hold := none, holdT := none,
                 openT := some { start := s.now, dur := s.tables.pt[p].openMs } }) ∧
    (s.rstn = true → timerDue s.now s.presses[p].dwellT = true → s.presses[p].state = .curing →
      exec (.dwellTimerExpiry p) s = .next (({ s with presses := s.presses.set p { s.presses[p] with
        dwellT := none, dwellDone := true } } : State).testCured p).kick) ∧
    (s.rstn = true → timerDue s.now s.presses[p].dwellT = false ∨ s.presses[p].state ≠ .curing →
      exec (.dwellTimerExpiry p) s = .next s.kick)

/-- R105, R109, R110 and R115. At the close timer's expiry in CLOSING the cycle is finalised ABORTED, close timeout
seen, and the press enters READY, raising RECORD_STORED and PRESS_STATE. The hold timer's expiry discards the held
OPEN and raises OPEN_HOLD_EXPIRED. The open timer's expiry in OPENING marks the record and raises OPEN_TIMEOUT, and
the press stays in OPENING. -/
def Obligations.PressTimeouts : Prop :=
  (∀ (s : State) (p : PressNo) (n : SlotNo) (c : CycleRecord) (r : RecipeNo), s.rstn = true →
    s.carries p n c r = true →
    (timerDue s.now s.presses[p].closeT = true → s.presses[p].state = .closing →
      ∃ t, exec (.closeTimerExpiry p) s = .next t.kick ∧
        Only { presses := true, store := true, notices := true } s t ∧
        Finalised s t p n { c with closeTimeout := true } r .aborted .ready ∧
        t.presses[p].halt = s.presses[p].halt ∧
        t.notices = ((s.raise .recordStored p.val 3).raise .pressState p.val 1).notices) ∧
    (timerDue s.now s.presses[p].closeT = false ∨ s.presses[p].state ≠ .closing →
      exec (.closeTimerExpiry p) s = .next s.kick)) ∧
  (∀ (s : State) (p : PressNo), s.rstn = true →
    (timerDue s.now s.presses[p].holdT = true → exec (.openHoldExpired p) s =
      .next (({ s with presses := s.presses.set p { s.presses[p] with hold := none, holdT := none } } :
        State).raise .openHoldExpired p.val 0).kick) ∧
    (timerDue s.now s.presses[p].holdT = false → exec (.openHoldExpired p) s = .next s.kick) ∧
    (timerDue s.now s.presses[p].openT = true → s.presses[p].state = .opening → exec (.openTimeout p) s =
      .next (({ s with presses := s.presses.set p { s.presses[p] with
        openT := none, cycle := s.presses[p].cycle.map (fun c => { c with openTimeout := true }) } } :
          State).raise .openTimeout p.val 0).kick) ∧
    (timerDue s.now s.presses[p].openT = false ∨ s.presses[p].state ≠ .opening →
      exec (.openTimeout p) s = .next s.kick))

/-- R123 to R125: a press that enters STUCK has its eject timer cancelled, its debounce 0, its cause and the
record flag of the cause, and raises PRESS_STATE and EJECT_STUCK; a halt to its ejector node is ordered, READY, or
WAITING behind the EJECT of the stroke while that stands in the DOWN buffer; a halt already held keeps its frame.
The eject timer's expiry in EJECTING is one such event, with cause TIMEOUT. -/
def Obligations.StuckAndHalt : Prop :=
  ∀ (s : State) (p : PressNo),
    s.haltFrame p = buildFrame s.own s.tables.pt[p].ejector kindCmd [s.tables.pt[p].haltCode, 0] ∧
    (∀ c : StuckCause, s.presses[p].state = .ejecting →
      let t := s.enterStuck p c
      Only { presses := true, line := true, notices := true } s t ∧
      t.notices = ((s.raise .pressState p.val 8).raise .ejectStuck p.val c.code).notices ∧
      (∀ q : PressNo, q ≠ p → t.presses[q] = s.presses[q]) ∧
      { t.presses[p] with halt := s.presses[p].halt } =
        { s.presses[p] with
          state := .stuck, ejectT := none, debounce := 0, stuckCause := some c,
          cycle := s.presses[p].cycle.map (fun y => { y with
            guardOpened := y.guardOpened || c == .guard, lineLoss := y.lineLoss || c == .line }) } ∧
      ((∀ d ∈ s.line.down, d.strokeOf ≠ some p) → t.line = s.line ∧
        t.presses[p].halt =
          if s.presses[p].halt = .none then .ready (s.haltFrame p) else s.presses[p].halt) ∧
      ((∃ d ∈ s.line.down, d.strokeOf = some p) →
        { t.line with down := s.line.down } = s.line ∧
        t.line.down.map (fun d => { d with awaitedBy := none }) =
          s.line.down.map (fun d => { d with awaitedBy := none }) ∧
        (∀ d ∈ t.line.down, d.awaitedBy = some p ↔ d.strokeOf = some p) ∧
        t.presses[p].halt = .waiting ((s.presses[p].halt.frame?).getD (s.haltFrame p)))) ∧
    (s.rstn = true → timerDue s.now s.presses[p].ejectT = true → s.presses[p].state = .ejecting →
      exec (.ejectTimerExpiry p) s = .next (s.enterStuck p .timeout).kick) ∧
    (s.rstn = true → timerDue s.now s.presses[p].ejectT = false ∨ s.presses[p].state ≠ .ejecting →
      exec (.ejectTimerExpiry p) s = .next s.kick)

/-- R112, R118 and R119. A sample equal to the accepted level clears an input's run, one that differs adds to it, and
the third differing sample in a row ends it; the acceptance is then a command of its own, taken before the next
sampling (the model's choice: log 9). An accepted level replaces the input's level with run 0; an accepted OPEN on
a used guard stops a stroke (STUCK with cause GUARD), marks the cycle record of a press in CLOSING, CURING, CURED,
OPENING, STUCK or UNLOADING, and acts on no other press (Table 70). -/
def Obligations.GuardInputs : Prop :=
  (∀ (s : State) (levels : BitVec 4), s.rstn = true →
    exec (.guardSample levels) s =
      exec (.guardSample levels) (allPresses.foldl (fun s n => s.acceptGuard n) s) ∧
    ((∀ n : Fin 4, s.guard[n].due = false) →
      ∃ t, exec (.guardSample levels) s = .next t.kick ∧ Only { guard := true, gdLevels := true } s t ∧
        t.gdLevels = levels ∧
        ∀ n : Fin 4, let level : GuardLevel := if levels.getLsbD n then .open else .closed
          (level = s.guard[n].accepted → t.guard[n] = { s.guard[n] with run := 0 }) ∧
          (level ≠ s.guard[n].accepted → s.guard[n].run ≠ 2 →
            t.guard[n] = { s.guard[n] with run := s.guard[n].run + 1 }) ∧
          (level ≠ s.guard[n].accepted → s.guard[n].run = 2 →
            t.guard[n] = { s.guard[n] with run := 0, due := true }))) ∧
  (∀ (s : State) (n : Fin 4), s.rstn = true →
    let x := s.presses[n].state
    let opened : State := { s with guard := s.guard.set n { accepted := .open, run := 0, due := false } }
    (s.guard[n].due = false → exec (.guardLevelAccepted n) s = .next s.kick) ∧
    (s.guard[n].due = true → s.guard[n].accepted = .open → exec (.guardLevelAccepted n) s =
      .next ({ s with guard := s.guard.set n { accepted := .closed, run := 0, due := false } } : State).kick) ∧
    (s.guard[n].due = true → s.guard[n].accepted = .closed →
      (s.tables.pt[n].guardUsed = false ∨ x = .idle ∨ x = .ready ∨ x = .opened →
        exec (.guardLevelAccepted n) s = .next opened.kick) ∧
      (s.tables.pt[n].guardUsed = true → x = .ejecting →
        exec (.guardLevelAccepted n) s = .next (opened.enterStuck n .guard).kick) ∧
      (s.tables.pt[n].guardUsed = true →
        x = .closing ∨ x = .curing ∨ x = .cured ∨ x = .opening ∨ x = .stuck ∨ x = .unloading →
        exec (.guardLevelAccepted n) s = .next ({ opened with
          presses := s.presses.set n { s.presses[n] with
            cycle := s.presses[n].cycle.map (fun c => { c with guardOpened := true }) } } : State).kick)))

/-- R105 and R110: in CLOSING a platen reading at or below the closed threshold is the closed time: the close timer
is cancelled, the dwell runs (or is done at once for 0), and the press enters CURING, its zones flagged if SYNC is
lost (R67); in OPENING one at or above the open threshold cancels the open timer and enters OPENED. Any other
platen reading changes nothing. -/
def Obligations.PlatenReadings : Prop :=
  ∀ (s : State) (p : PressNo) (r : RecipeNo) (v : Nat), s.presses[p].recipe = some r →
    let t := s.platenReading p v
    (s.presses[p].state = .closing → v ≤ s.tables.pt[p].closedAt →
      Only { presses := true, zones := true, notices := true } s t ∧
      t.notices = (s.raise .pressState p.val 3).notices ∧
      t.presses = s.presses.set p { s.presses[p] with
        state := .curing, closed := some s.now, closeT := none, dwellDone := s.tables.rt[r].dwell == 0,
        dwellT := if s.tables.rt[r].dwell = 0 then none
          else some { start := s.now, dur := 1000 * s.tables.rt[r].dwell } } ∧
      (∀ z ∈ s.tables.pt[p].zones,
        t.zones[z] = { s.zones[z] with syncLost := s.zones[z].syncLost || s.sync.lost }) ∧
      (∀ z : ZoneNo, z ∉ s.tables.pt[p].zones → t.zones[z] = s.zones[z])) ∧
    (s.presses[p].state = .opening → s.tables.pt[p].openAt ≤ v →
      t = s.moved p { s.presses[p] with state := .opened, openT := none }) ∧
    (¬(s.presses[p].state = .closing ∧ v ≤ s.tables.pt[p].closedAt) →
      ¬(s.presses[p].state = .opening ∧ s.tables.pt[p].openAt ≤ v) → t = s)

/-- R127 and R128: in EJECTING a position at or above the out threshold is a made panel: the eject timer is
cancelled, the serial is taken and the counter moves on, the label joins the release list where there is a marker,
and the press enters UNLOADING. In UNLOADING a position at or below the home threshold finalises the cycle GOOD, or
OVERRIDE after an honoured override. Any other position changes nothing. -/
def Obligations.EjectorPositions : Prop :=
  ∀ (s : State) (p : PressNo) (n : SlotNo) (c : CycleRecord) (r : RecipeNo) (v : Nat), s.carries p n c r = true →
    let t := s.posReading p v
    (s.presses[p].state = .ejecting → s.tables.pt[p].outAt ≤ v →
      Only { presses := true, store := true, line := true, notices := true } s t ∧
      t.store = { s.store with serial := s.store.serial + 1 } ∧
      t.presses = s.presses.set p { s.presses[p] with
        state := .unloading, ejectT := none, cycle := some { c with serial := some s.store.serial } } ∧
      t.notices = (s.raise .pressState p.val 9).notices ∧
      (s.tables.pt[p].marker = 0 → t.line = s.line) ∧
      (s.tables.pt[p].marker ≠ 0 → t.line = { s.line with release := s.line.release ++ [
        { press := p, kind := .label,
          frame := buildFrame s.own s.tables.pt[p].marker kindLabl
            (toBytes 4 s.store.serial.toNat ++ [byteOf p.val, byteOf r.val] ++ toBytes 2 c.chargeNo.toNat) }] })) ∧
    (s.presses[p].state = .unloading → v ≤ s.tables.pt[p].homeAt →
      let d : Disposition := if s.presses[p].override then .override else .good
      Only { presses := true, store := true, notices := true } s t ∧ Finalised s t p n c r d .ready ∧
      t.presses[p].halt = s.presses[p].halt ∧
      t.notices = ((s.raise .recordStored p.val d.code).raise .pressState p.val 1).notices) ∧
    (¬(s.presses[p].state = .ejecting ∧ s.tables.pt[p].outAt ≤ v) →
      ¬(s.presses[p].state = .unloading ∧ v ≤ s.tables.pt[p].homeAt) → t = s)

/-- R121 and R122: a force reading in EJECTING belongs to segment floor(time / segment length), 7 at most, updates
the peak with its segment and stroke, and is an overforce above the peak limit at once, or above the segment's
maximum for the debounce count of readings in a row; a reading within the envelope sets the debounce to 0. In any
other state it is not tested. -/
def Obligations.ForceReadings : Prop :=
  ∀ (s : State) (p : PressNo) (f : Nat),
    (s.presses[p].state ≠ .ejecting → s.forceReading p f = s) ∧
    (∀ (r : RecipeNo) (t0 : Time), s.presses[p].state = .ejecting → s.presses[p].recipe = some r →
      s.presses[p].ejectStart = some t0 → 0 < s.tables.rt[r].debounce →
      let recipe := s.tables.rt[r]
      let k := min 7 ((s.now - t0).toNat / recipe.segLen)
      let q : Press := if s.presses[p].peak < f
        then { s.presses[p] with peak := f, peakSeg := some k, peakStroke := some s.presses[p].stroke }
        else s.presses[p]
      let after (n : Nat) : State := { s with presses := s.presses.set p { q with debounce := n } }
      (recipe.peakLimit < f → s.forceReading p f = (after s.presses[p].debounce).enterStuck p .force) ∧
      (f ≤ recipe.peakLimit → f ≤ recipe.segMax.getD k 0 → s.forceReading p f = after 0) ∧
      (f ≤ recipe.peakLimit → recipe.segMax.getD k 0 < f → s.presses[p].debounce + 1 < recipe.debounce →
        s.forceReading p f = after (s.presses[p].debounce + 1)) ∧
      (f ≤ recipe.peakLimit → recipe.segMax.getD k 0 < f → recipe.debounce ≤ s.presses[p].debounce + 1 →
        s.forceReading p f = (after (s.presses[p].debounce + 1)).enterStuck p .force))

/-! ## Sample classification -/

/-- R30 to R35. A SAMP payload that is not 1 to 8 readings of four bytes is not classified; readings are taken in frame
order; one without an active entry of its key is ignored; a sensor fault marks only a zone's record; a good one
makes the entry's target FRESH at its arrival, with the entry's maximum age, and is given to the owner. A FRESH
target whose age exceeds its maximum becomes STALE at its timer's expiry and keeps its value and time; any other
target is left as it is. R41, R44 and R46: a good zone reading replaces the zone's temperature and range flag by its
conversion, on an invalid curve by none, and with the press in CURING updates the cycle extremes and range flags; a
reconversion takes the last raw count of a FRESH or STALE target and leaves the cycle fields. Table 21: a WEIGH reading
is the weigh station's, a PLATEN, EJECT_POS or EJECT_FORCE reading its own press's, with the effects that
`WeighStation` and `RemovalFromScale`, `PlatenReadings`, `EjectorPositions` and `ForceReadings` state. -/
def Obligations.ReadingsAndTargets : Prop :=
  (∀ (s : State) (v : Nat),
    s.ownerReading .weigh 0 v = s.weighReading v ∧
    ∀ p : PressNo, s.ownerReading .platen p.val v = s.platenReading p v ∧
      s.ownerReading .ejectPos p.val v = s.posReading p v ∧
      s.ownerReading .ejectForce p.val v = s.forceReading p v) ∧
  (∀ (s : State) (z : ZoneNo) (r : Nat),
    let q := s.zones[z]
    let c := convert s.tables.lin[s.tables.zt[z].curve] s.tables.zt[z].offset r
    let put (x : ZoneRecord) : State := { s with zones := s.zones.set z x }
    let curing := ∃ p : PressNo, s.pressOf z = some p ∧ s.presses[p].state = .curing
    (c.1 = none ∨ ¬curing → s.ownerReading .zoneTc z.val r = put { q with temp := c.1, range := c.2 }) ∧
    (∀ t : Int, c.1 = some t → curing → s.ownerReading .zoneTc z.val r = put { q with
      temp := some t, range := c.2,
      cycMin := some (q.cycMin.elim t (min t)), cycMax := some (q.cycMax.elim t (max t)),
      underSeen := q.underSeen || c.2 == .under, overSeen := q.overSeen || c.2 == .over }) ∧
    (∀ a m, s.targets[zoneTarget z] = .fresh r a m ∨ s.targets[zoneTarget z] = .stale r a →
      s.reconvert z = put { q with temp := c.1, range := c.2 }) ∧
    (s.targets[zoneTarget z] = .unrefreshed ∨ s.targets[zoneTarget z] = .unbound → s.reconvert z = s)) ∧
  (∀ (s : State) (f : Frame),
    (f.payload.length % 4 ≠ 0 ∨ f.payload = [] ∨ 32 < f.payload.length → s.classify f = s) ∧
    (∀ c st hi lo rest, f.payload = c :: st :: hi :: lo :: rest → rest ≠ [] → rest.length % 4 = 0 →
      rest.length ≤ 28 →
      s.classify f = (s.classify { f with payload := [c, st, hi, lo] }).classify { f with payload := rest }) ∧
    (∀ c st hi lo, f.payload = [c, st, hi, lo] →
      ((∀ i : Fin 64, s.tables.cht[i].role ≠ .none → s.tables.cht[i].node = f.srcAddr →
          s.tables.cht[i].channel ≠ c.toNat) → s.classify f = s) ∧
      (∀ i : Fin 64, s.tables.cht[i].role ≠ .none → s.tables.cht[i].node = f.srcAddr →
        s.tables.cht[i].channel = c.toNat →
        (∀ j : Fin 64, j < i → s.tables.cht[j].role ≠ .none → s.tables.cht[j].node = f.srcAddr →
          s.tables.cht[j].channel ≠ c.toNat) →
        (st.getLsbD 0 = true → s.tables.cht[i].role ≠ .zoneTc → s.classify f = s) ∧
        (∀ z : ZoneNo, st.getLsbD 0 = true → s.tables.cht[i].role = .zoneTc → s.tables.cht[i].index = z.val →
          s.classify f = { s with zones := s.zones.set z { s.zones[z] with sensorFault := true } }) ∧
        (∀ t : TargetNo, st.getLsbD 0 = false → s.tables.cht[i].target = some t →
          let v := hi.toNat * 256 + lo.toNat
          let x : Target := .fresh v s.now (10 * s.tables.cht[i].ageUnits)
          s.classify f = ({ s with targets := s.targets.set t x } : State).ownerReading
            s.tables.cht[i].role s.tables.cht[i].index v)))) ∧
  (∀ (s : State) (t : TargetNo), s.rstn = true →
    (∀ v a m, s.targets[t] = .fresh v a m → m < (s.now - a).toNat →
      exec (.targetAgeExpiry t) s = .next ({ s with targets := s.targets.set t (.stale v a) } : State).kick) ∧
    (∀ v a m, s.targets[t] = .fresh v a m → (s.now - a).toNat ≤ m →
      exec (.targetAgeExpiry t) s = .next s.kick) ∧
    ((∀ v a m, s.targets[t] ≠ .fresh v a m) → exec (.targetAgeExpiry t) s = .next s.kick))

/-! ## Temperature, cure and heat -/

/-- R39, R41 to R43: on an invalid curve there is no temperature; below the first breakpoint the first temperature
with UNDER, above the last the last with OVER, between two breakpoints N / D added to the lower one's temperature,
rounded to nearest with an exact half away from zero; then the offset, clamped to -400 to 4000 with its flag. The
interpolated temperature of a curve within -400 to 4000 lies within them too, and the clamped value is the one
stored in the zone record. -/
def Obligations.TemperatureConversion : Prop :=
  (∀ (s : State) (z : ZoneNo) (r : Nat),
    ((s.ownerReading .zoneTc z.val r).zones[z].temp, (s.ownerReading .zoneTc z.val r).zones[z].range) =
      convert s.tables.lin[s.tables.zt[z].curve] s.tables.zt[z].offset r) ∧
  (∀ (c : List Breakpoint) (r : Nat), c.Pairwise (fun a b => a.raw < b.raw) →
    (∀ b ∈ c, -400 ≤ b.temp ∧ b.temp ≤ 4000) → -400 ≤ (curvePoint c r).1 ∧ (curvePoint c r).1 ≤ 4000) ∧
  (∀ (a b : Breakpoint) (r : Nat), a.raw < b.raw → a.raw ≤ r → r ≤ b.raw →
    let exact : ℚ := ((r : ℚ) - a.raw) * ((b.temp : ℚ) - a.temp) / ((b.raw : ℚ) - a.raw)
    let got : ℚ := ((interpolate a b r - a.temp : Int) : ℚ)
    |got - exact| ≤ 1 / 2 ∧ (|got - exact| = 1 / 2 → |exact| ≤ |got|) ∧
    min a.temp b.temp ≤ interpolate a b r ∧ interpolate a b r ≤ max a.temp b.temp) ∧
  (∀ (c : List Breakpoint) (o : Int) (r : Nat), ¬c.Pairwise (fun a b => a.raw < b.raw) →
    convert c o r = (none, .none)) ∧
  (∀ (c : List Breakpoint) (o : Int) (r : Nat), c.Pairwise (fun a b => a.raw < b.raw) →
    (∀ a rest, c = a :: rest → r < a.raw → curvePoint c r = (a.temp, .under)) ∧
    (∀ a rest, c = rest ++ [a] → a.raw < r → curvePoint c r = (a.temp, .over)) ∧
    (∀ a b before after, c = before ++ a :: b :: after → a.raw ≤ r → r ≤ b.raw →
      (curvePoint c r).1 = interpolate a b r ∧ (curvePoint c r).2 = .none) ∧
    (convert c o r).1 = some (max (-400) (min 4000 ((curvePoint c r).1 + o))) ∧
    (convert c o r).2 =
      if (curvePoint c r).1 + o < -400 then .under
      else if 4000 < (curvePoint c r).1 + o then .over
      else (curvePoint c r).2)

/-- R48, R50 and R51: the increment is 0 below 800 tenths, rate 23 from 1,950 on, the table's rate at each step of
50 and never outside the two rates around a temperature, so it is at most 4,095. Between two steps it is the lower
rate plus the product of R48 divided by 50, the quotient truncated toward zero. The index never falls, and saturates
at 16,777,215. -/
def Obligations.CureIncrement : Prop :=
  ∀ (rates : List Nat) (t : Int), rates.length = 24 → (∀ x ∈ rates, x ≤ 4095) →
    (t < 800 → cureIncrement rates t = 0) ∧ (1950 ≤ t → cureIncrement rates t = rates.getD 23 0) ∧
    (∀ i : Nat, i < 23 → cureIncrement rates (800 + 50 * i) = rates.getD i 0 ∧
      (800 + 50 * (i : Int) ≤ t → t < 850 + 50 * (i : Int) →
        min (rates.getD i 0) (rates.getD (i + 1) 0) ≤ cureIncrement rates t ∧
        cureIncrement rates t ≤ max (rates.getD i 0) (rates.getD (i + 1) 0)) ∧
      (800 + 50 * (i : Int) ≤ t → t < 850 + 50 * (i : Int) →
        let product : Int := ((rates.getD (i + 1) 0 : Int) - rates.getD i 0) * (t - (800 + 50 * i))
        ∃ q : Int, (cureIncrement rates t : Int) = rates.getD i 0 + q ∧ 50 * |q| ≤ |product| ∧
          |product| < 50 * |q| + 50 ∧ 0 ≤ q * product)) ∧
    cureIncrement rates t ≤ 4095 ∧
    (∀ z : ZoneRecord, z.temp = some t → z.cure ≤ 16777215 →
      (addCure rates z).cure = min 16777215 (z.cure + cureIncrement rates t) ∧ z.cure ≤ (addCure rates z).cure ∧
      (addCure rates z).cureHot = (z.cureHot || decide (2000 ≤ t)))

/-- R61 and R62: the PI computation, with the error clamped to 500, the proportional term floored toward minus
infinity, the integrator clamped to 64,000 and kept where the output is saturated in the error's direction; the
duty is never above the ceiling. A control period makes it for a zone that is fresh and in REGULATING, from its
temperature and integrator, and the recipe of its press with the setpoint of its position, as they stand then; the
duty becomes the last computed duty and the preset entry, and the zone stays REGULATING with its stale count 0. -/
def Obligations.PiComputation : Prop :=
  (∀ (s : State) (z : ZoneNo) (p : PressNo) (k : Nat) (r : RecipeNo) (t : Int),
    s.pressOf z = some p → s.positionOf z = some k → s.presses[p].recipe = some r →
    s.targets[zoneTarget z].isFresh = true → s.zones[z].temp = some t → s.zones[z].state = .regulating →
    let d := piStep s.tables.rt[r] (s.tables.rt[r].setpoints.getD k 0) t s.zones[z].integ
    let after := (s.periodZone z).zones[z]
    after.integ = d.2 ∧ after.lastDuty = d.1 ∧ after.preset = d.1 ∧ after.state = .regulating ∧
      after.staleCount = 0) ∧
  ∀ (r : Recipe) (setpoint : Nat) (t : Int) (i : Nat), i ≤ 64000 →
    let e : Int := max (-500) (min 500 (setpoint - t))
    let p : Int := ⌊((r.kp : ℚ) * e) / 16⌋
    let i' : Int := max 0 (min 64000 (i + r.ki * e))
    let u : Int := p + ⌊(i' : ℚ) / 64⌋
    let kept : Int := if (r.ceiling < u ∧ 0 < e) ∨ (u < 0 ∧ e < 0) then i else i'
    ((piStep r setpoint t i).2 : Int) = kept ∧
    ((piStep r setpoint t i).1 : Int) = max 0 (min (r.ceiling : Int) (p + ⌊(kept : ℚ) / 64⌋)) ∧
    (piStep r setpoint t i).1 ≤ r.ceiling ∧ (piStep r setpoint t i).2 ≤ 64000 ∧
    (r.kp ≤ 255 → -7969 ≤ p ∧ p ≤ 7968) ∧ 0 ≤ ⌊(i' : ℚ) / 64⌋ ∧ ⌊(i' : ℚ) / 64⌋ ≤ 1000

/-- R60 to R67 and R50. What a control period does to a stale zone that is regulated: the stale count, the state by
its grace, the preset entry (last duty in HOLDING, fallback duty in FALLBACK), the notices, and the stale-seen flag
where its press is in cycle; integrator and last duty are kept. A fresh zone returns to REGULATING with its stale
count 0, raising ZONE_RECOVERED with the count it had where it was not; its duty, integrator and preset entry are
those of the PI computation for the setpoint of its position; a zone of a CURING press adds its cure increment. -/
def Obligations.ZoneAtPeriod : Prop :=
  (∀ (s : State) (z : ZoneNo), s.targets[zoneTarget z].isFresh = false ∨ s.zones[z].temp = none →
    let q := s.zones[z]
    let seen := q.staleSeen || s.zoneInCycle z
    let count := min 255 (q.staleCount + 1)
    let hold (n : Nat) : ZoneRecord :=
      { q with state := .holding, staleCount := n, preset := q.lastDuty, staleSeen := seen }
    let fall (n : Nat) : ZoneRecord :=
      { q with state := .fallback, staleCount := n, preset := s.tables.zt[z].fallback, staleSeen := seen }
    let put (t : State) (x : ZoneRecord) : State := { t with zones := s.zones.set z x }
    (q.state = .regulating → 1 ≤ s.tables.zt[z].grace →
      s.periodZone z = put (s.raise .zoneStale z.val 0) (hold 1)) ∧
    (q.state = .regulating → s.tables.zt[z].grace = 0 →
      s.periodZone z = put ((s.raise .zoneStale z.val 0).raise .zoneFallback z.val 0) (fall 1)) ∧
    (q.state = .holding → count ≤ s.tables.zt[z].grace → s.periodZone z = put s (hold count)) ∧
    (q.state = .holding → s.tables.zt[z].grace < count →
      s.periodZone z = put (s.raise .zoneFallback z.val 0) (fall count)) ∧
    (q.state = .fallback → s.periodZone z = put s (fall count)) ∧
    (q.state = .unassigned ∨ q.state = .idle → s.periodZone z = put s { q with preset := 0 })) ∧
  (∀ (s : State) (z : ZoneNo) (p : PressNo) (k : Nat) (r : RecipeNo) (t : Int),
    s.pressOf z = some p → s.positionOf z = some k → s.presses[p].recipe = some r →
    s.targets[zoneTarget z].isFresh = true → s.zones[z].temp = some t →
    let q := s.zones[z]
    let d := piStep s.tables.rt[r] (s.tables.rt[r].setpoints.getD k 0) t q.integ
    let n : ZoneRecord :=
      { q with state := .regulating, integ := d.2, lastDuty := d.1, preset := d.1, staleCount := 0 }
    let n' : ZoneRecord := if s.presses[p].state = .curing
      then { n with cure := min 16777215 (q.cure + cureIncrement (s.zoneRates z) t),
                    cureHot := q.cureHot || decide (2000 ≤ t) }
      else n
    (q.state = .regulating → s.periodZone z = { s with zones := s.zones.set z n' }) ∧
    (q.state = .holding ∨ q.state = .fallback →
      s.periodZone z = { (s.raise .zoneRecovered z.val q.staleCount) with zones := s.zones.set z n' }) ∧
    (q.state = .idle ∨ q.state = .unassigned →
      s.periodZone z = { s with zones := s.zones.set z { q with preset := 0 } }))

/-- R60: a control period does each zone's own work, whatever the others are, the zones in ascending zone number and
their notices raised in that order, then the CURED tests in press order, then the posted applies; with no period due
nothing (the period as a command of its own: log 8). -/
def Obligations.ControlPeriod : Prop :=
  ∀ s : State, s.rstn = true →
    (s.periodDue = false → exec .controlPeriod s = .next s.kick) ∧
    (s.periodDue = true →
      ∃ t, Only { zones := true, notices := true, periodDue := true } s t ∧ t.periodDue = false ∧
        (∀ z : ZoneNo, t.zones[z] = (s.periodZone z).zones[z]) ∧
        t.notices = ((List.finRange 16).foldl State.periodZone { s with periodDue := false }).notices ∧
        exec .controlPeriod s = .next ((allPresses.foldl State.testCured t).applyPeriodEnd).kick)

/-- R69: the burst has one DUTY frame for each heater node that some zone names, in ascending address order, with
one entry for each of its zones in ascending output channel order; an entry of a zone in REGULATING or HOLDING is
at most its recipe's duty ceiling, and any other is the preset entry. -/
def Obligations.DutyBurst : Prop :=
  ∀ s : State,
    (s.buildBurst.map (·.dstAddr.toNat)).Pairwise (· < ·) ∧
    (∀ a : Addr, (∃ f ∈ s.buildBurst, f.dstAddr = a) ↔
      (1 ≤ a.toNat ∧ a.toNat ≤ 47 ∧ ∃ z : ZoneNo, s.tables.zt[z].heater = a ∧ s.tables.zt[z].channel < 16)) ∧
    (∀ f ∈ s.buildBurst, ∃ zs : List ZoneNo,
      f = buildFrame s.own f.dstAddr kindDuty
        (zs.flatMap (fun z => byteOf s.tables.zt[z].channel :: toBytes 2 (s.burstDuty z))) ∧
      zs.Nodup ∧ (∀ z ∈ zs, s.tables.zt[z].heater = f.dstAddr) ∧
      (∀ z : ZoneNo, s.tables.zt[z].heater = f.dstAddr → s.tables.zt[z].channel < 16 → z ∈ zs) ∧
      zs.Pairwise (fun x y => s.tables.zt[x].channel ≤ s.tables.zt[y].channel)) ∧
    (∀ (z : ZoneNo) (c : Nat), s.zoneCeiling z = some c →
      s.zones[z].state = .regulating ∨ s.zones[z].state = .holding → s.burstDuty z = min s.zones[z].preset c) ∧
    (∀ z : ZoneNo, s.zones[z].state = .fallback ∨ s.zones[z].state = .idle ∨ s.zones[z].state = .unassigned →
      s.burstDuty z = s.zones[z].preset)

/-! ## Weighing and charges -/

/-- R83, R77, R76 and R82: the check at a millisecond event sends a station without a FRESH target to NO_SIGNAL, a
load on the pan counted unsettled; WEIGH RECIPE is refused BADARG for a number that names no valid recipe and
BADSTATE for a change under a load, and otherwise sets the recipe, with OFF entered or left as R76 then gives;
WEIGH TARE stores the mean raw value of a stable window in EMPTY or STABLE as the zero, clears the marks on SYS and
goes to EMPTY, and is refused BADSTATE otherwise. R74, R75 and R78 to R80: a good reading is converted, rounded half
up and clamped to 0 to 60,000 g, and becomes the last weight; in OFF it does nothing more; below the empty threshold
it stays in or enters EMPTY and is pushed, or in LOADING counts an unsettled load; at the threshold or above it
starts LOADING with a window of its own, or in LOADING and STABLE is pushed, the oldest beyond M leaving, and
judged: STABLE with the mean rounded half up, its verdict and its clamped deviation where the M weights lie within
the band, LOADING where not. -/
def Obligations.WeighStation : Prop :=
  (∀ (s : State) (raw : Nat),
    let y := s.tables.sys
    let w := weightOf y raw
    let item : WeighItem := { raw := raw, weight := w }
    let push (l : List WeighItem) : List WeighItem := (l ++ [item]).rtake y.weighM
    let at' (x : WeighState) (l : List WeighItem) : State :=
      { s with weigh := { s.weigh with state := x, window := l, last := some w } }
    let t := s.weighReading raw
    (w : Int) = max 0 (min 60000 ⌊(((raw : ℚ) - y.weighZero) * y.weighGain) / 4096 + 1 / 2⌋) ∧
    (s.weigh.state = .off → t = at' .off s.weigh.window) ∧
    (w < y.weighEmpty →
      (s.weigh.state = .empty → t = at' .empty (push s.weigh.window)) ∧
      (s.weigh.state = .noSignal → t = at' .empty (push [])) ∧
      (s.weigh.state = .loading → t = (at' .empty []).count 9)) ∧
    (y.weighEmpty ≤ w → 4 ≤ y.weighM → s.weigh.state = .empty ∨ s.weigh.state = .noSignal →
      t = at' .loading [item]) ∧
    (∀ r : RecipeNo, s.weigh.recipe = some r → y.weighEmpty ≤ w → s.weigh.state.loaded = true →
      let l := push s.weigh.window
      let settled := l.length = y.weighM ∧ ∀ a ∈ l, ∀ b ∈ l, a.weight ≤ b.weight + y.weighBand
      let mean := (2 * (l.map (·.weight)).sum + y.weighM) / (2 * y.weighM)
      let low : Int := s.tables.rt[r].target - s.tables.rt[r].tolLow
      let high : Int := s.tables.rt[r].target + s.tables.rt[r].tolHigh
      let v : Verdict := if (mean : Int) < low then .under else if high < mean then .over else .within
      (settled → t = at' (.stable v mean (max (-32768) (min 32767 ((mean : Int) - s.tables.rt[r].target)))) l) ∧
      (¬settled → t = at' .loading l))) ∧
  ∀ s : State,
    let bare : State := { s with weigh := { s.weigh with state := .noSignal, window := [] } }
    let absent := s.targets[weighTarget].isFresh = false
    let off : State := { s with weigh := { s.weigh with state := .off, window := [] } }
    let mustBeOff := s.mode = .config ∨ s.targets[weighTarget].isBound = false ∨ s.weigh.recipe = none
    (s.rstn = true →
      (s.weigh.state = .empty → absent → exec .weighSignalCheck s = .next bare.kick) ∧
      (s.weigh.state.loaded = true → absent → exec .weighSignalCheck s = .next (bare.count 9).kick) ∧
      (¬absent ∨ s.weigh.state = .off ∨ s.weigh.state = .noSignal → exec .weighSignalCheck s = .next s.kick)) ∧
    ((mustBeOff → s.weigh.state.loaded = true → s.weighGate = off.count 9) ∧
      (mustBeOff → s.weigh.state = .empty ∨ s.weigh.state = .noSignal → s.weighGate = off) ∧
      (mustBeOff → s.weigh.state = .off → s.weighGate = s) ∧
      (¬mustBeOff → s.weigh.state = .off → s.weighGate = bare) ∧
      (¬mustBeOff → s.weigh.state ≠ .off → s.weighGate = s)) ∧
    (∀ (src : Addr) (tag b : Byte) (i : Fin 4), s.serves src i true = true →
      let set (x : Option RecipeNo) : State := { s with weigh := { s.weigh with recipe := x } }
      let ok (x : Option RecipeNo) : Prop := exec (.weighRecipe src tag b) s =
        .next ((set x).weighGate.answered (okFrame s.own src tag 16 [])).kick
      let no (code : Byte) : Prop := exec (.weighRecipe src tag b) s =
        .next (s.answered (errFrame s.own src tag 16 code [])).kick
      (b = 255 → s.weigh.state.loaded = true → s.weigh.recipe ≠ none → no 4) ∧
      (b = 255 → s.weigh.state.loaded = false ∨ s.weigh.recipe = none → ok none) ∧
      (b ≠ 255 → 8 ≤ b.toNat → no 3) ∧
      (∀ r : RecipeNo, b.toNat = r.val →
        (s.tables.rt[r].valid = false → no 3) ∧
        (s.tables.rt[r].valid = true → s.weigh.state.loaded = true → s.weigh.recipe ≠ some r → no 4) ∧
        (s.tables.rt[r].valid = true → s.weigh.state.loaded = false ∨ s.weigh.recipe = some r → ok (some r)))) ∧
    (∀ (src : Addr) (tag : Byte) (i : Fin 4), s.serves src i true = true →
      let can := (s.weigh.state = .empty ∨ ∃ v w d, s.weigh.state = .stable v w d) ∧
        s.weigh.window.length = s.tables.sys.weighM ∧ windowSpread s.weigh.window ≤ s.tables.sys.weighBand
      (¬can → exec (.weighTare src tag) s = .next (s.answered (errFrame s.own src tag 17 4 [])).kick) ∧
      (can → ∃ t, exec (.weighTare src tag) s =
          .next (t.answered (okFrame s.own src tag 17 (toBytes 2 (stableRaw s.weigh.window)))).kick ∧
        Only { tables := true, weigh := true, agent := true } s t ∧
        t.tables = { s.tables with sys := { s.tables.sys with weighZero := stableRaw s.weigh.window } } ∧
        t.weigh = { s.weigh with state := .empty, window := [] } ∧
        { t.agent with marks := s.agent.marks } = s.agent ∧
        (∀ j : Fin 4, t.agent.marks[j] =
          if s.agent.marks[j] = some { table := 7, entry := 0 } then none else s.agent.marks[j])))

/-- R81, R85, R86, R87 and R135: when the load is lifted off a stable scale and no slot is FREE the charge is
untraced; otherwise the lowest FREE slot is used: IN with room in the queue joins its tail, its expiry 1,000 times
the out-time on, its slot reserved for it; UNDER, OVER, or IN with a full queue makes a CHARGE record. Its number is
the first after the last assigned that no queued entry holds. The station goes to EMPTY. A reservation that takes the
free count below the store low mark raises STORE_LOW with the new count, before CHARGE_ACCEPTED, or before
RECORD_STORED and CHARGE_REJECTED. CHARGE_UNTRACED comes before the COUNTER_HALF of its counter (the model's choice:
log 11). -/
def Obligations.RemovalFromScale : Prop :=
  ∀ (s : State) (raw : Nat) (v : Verdict) (w : Nat) (dev : Int) (r : RecipeNo),
    s.weigh.state = .stable v w dev → s.weigh.recipe = some r → s.charges.length ≤ 8 →
    weightOf s.tables.sys raw < s.tables.sys.weighEmpty →
    let t := s.weighReading raw
    let free := ((List.finRange 64).filter (fun k : SlotNo => s.store.slots[k].isFree)).length
    let reserved : State :=
      if free = s.tables.sys.lowMark then s.raise .storeLow 0 (free - 1) else s
    Only { weigh := true, charges := true, store := true, notices := true } s t ∧
    t.weigh = { s.weigh with state := .empty, window := [], last := some (weightOf s.tables.sys raw) } ∧
    ((∀ k : SlotNo, s.store.slots[k] ≠ .free) →
      t.charges = s.charges ∧ t.store = s.store ∧
      t.notices = ((s.raise .chargeUntraced r.val v.code).count 10).notices) ∧
    (∀ n : SlotNo, s.store.slots[n] = .free → (∀ k : SlotNo, k < n → s.store.slots[k] ≠ .free) →
      ∃ (number : ChargeNo) (j : Nat), number = s.store.chargeNo + 1 + BitVec.ofNat 16 j ∧
        (∀ e ∈ s.charges, e.number ≠ number) ∧
        (∀ k : Nat, k < j → ∃ e ∈ s.charges, e.number = s.store.chargeNo + 1 + BitVec.ofNat 16 k) ∧
        t.store.chargeNo = number ∧ t.store.serial = s.store.serial ∧
        (∀ k : SlotNo, k ≠ n → t.store.slots[k] = s.store.slots[k]) ∧
        (v = .within → s.charges.length < 8 →
          t.store.slots[n] = .reserved (.charge number) ∧ t.store.recordNo = s.store.recordNo ∧
          t.charges = s.charges ++ [{
            number := number, recipe := r, weight := w, dev := dev, accepted := s.now,
            expiry := s.now + BitVec.ofNat 32 (1000 * s.tables.rt[r].outTime), slot := n }] ∧
          t.notices = (reserved.raise .chargeAccepted r.val number.toNat).notices) ∧
        (∀ d : Disposition, (v = .within ∧ s.charges.length = 8 ∧ d = .noQueue) ∨
            (v = .under ∧ d = .rejectUnder) ∨ (v = .over ∧ d = .rejectOver) →
          t.charges = s.charges ∧ t.store.recordNo = s.store.recordNo + 1 ∧
          t.store.slots[n] = .stored { chargeRecord number r w dev d with number := s.store.recordNo }
            (freshDelivery s) ∧
          t.notices = ((reserved.raise .recordStored 255 d.code).raise .chargeRejected r.val d.code).notices))

/-- R88 and R90: a charge that reaches its expiry, or is discarded by its number, leaves the queue, and its CHARGE
record with disposition EXPIRED or DISCARDED is stored in the slot it held; the other entries keep their order. A
number the queue does not hold is refused BADARG; before its expiry time a charge stays. -/
def Obligations.ChargeEnds : Prop :=
  ∀ (s : State) (n : ChargeNo), s.rstn = true →
    ((∀ e ∈ s.charges, e.number ≠ n) → exec (.chargeExpired n) s = .next s.kick ∧
      ∀ src tag i, s.serves src i true = true →
        exec (.chargeDiscard src tag n) s = .next (s.answered (errFrame s.own src tag 18 3 [])).kick) ∧
    (∀ (before after : List ChargeEntry) (e : ChargeEntry), s.charges = before ++ e :: after → e.number = n →
      (∀ x ∈ before, x.number ≠ n) →
      let ended (d : Disposition) (t : State) : Prop :=
        Only { charges := true, store := true, notices := true } s t ∧ t.charges = before ++ after ∧
        t.store = { s.store with
          recordNo := s.store.recordNo + 1,
          slots := s.store.slots.set e.slot (.stored
            { chargeRecord n e.recipe e.weight e.dev d with number := s.store.recordNo } (freshDelivery s)) }
      ((s.now - e.accepted).toNat < (e.expiry - e.accepted).toNat →
        exec (.chargeExpired n) s = .next s.kick) ∧
      ((e.expiry - e.accepted).toNat ≤ (s.now - e.accepted).toNat →
        ∃ t, exec (.chargeExpired n) s = .next t.kick ∧ ended .expired t ∧
          t.notices = ((s.raise .recordStored 255 4).raise .chargeExpired e.recipe.val n.toNat).notices) ∧
      (∀ src tag i, s.serves src i true = true →
        ∃ t, exec (.chargeDiscard src tag n) s =
            .next (t.answered (okFrame s.own src tag 18 (toBytes 4 s.store.recordNo.toNat))).kick ∧
          ended .discarded t ∧ t.notices = (s.raise .recordStored 255 5).notices))

/-! ## The history store and the drain channels -/

/-- R137 to R139: the oldest record of a kind precedes every other of it. RELEASE marks every record numbered up
to n, or up to the highest stored where that precedes n, released, and frees those that owe nothing to channel 1;
it answers the number used and how many slots became FREE, or six zeros with nothing stored. -/
def Obligations.StoreOrderAndRelease : Prop :=
  ∀ s : State, s.store.inHalf →
    (∀ f : Delivery → Bool,
      (s.store.oldest f = none ↔ ∀ (i : SlotNo) r d, s.store.slots[i] = .stored r d → f d = false) ∧
      (∀ i, s.store.oldest f = some i → ∃ r d, s.store.slots[i] = .stored r d ∧ f d = true ∧
        ∀ (j : SlotNo) r' d', s.store.slots[j] = .stored r' d' → f d' = true →
          r'.number = r.number ∨ (1 ≤ (r'.number - r.number).toNat ∧
            (r'.number - r.number).toNat ≤ 2147483647))) ∧
    (∀ (src : Addr) (tag : Byte) (n : Number) (i : Fin 4), s.serves src i true = true →
      ((∀ (k : SlotNo) r d, s.store.slots[k] ≠ .stored r d) →
        exec (.release src tag n) s = .next (s.answered (okFrame s.own src tag 21 [0, 0, 0, 0, 0, 0])).kick) ∧
      (∀ (h : Number), (∃ (k : SlotNo) (r : Record) (d : Delivery), s.store.slots[k] = .stored r d ∧
          r.number = h) →
        (∀ (k : SlotNo) r d, s.store.slots[k] = .stored r d → upTo r.number h = true) →
        let upto := if precedes h n then h else n
        ∃ t, Only { store := true } s t ∧
          { t.store with slots := s.store.slots } = s.store ∧
          (∀ k : SlotNo,
            (∀ r d, s.store.slots[k] = .stored r d → upTo r.number upto = true →
              t.store.slots[k] = if d.owed1 = true ∧ d.delivered1 = false
                then .stored r { d with released := true } else .free) ∧
            ((∀ r d, s.store.slots[k] = .stored r d → upTo r.number upto = false) →
              t.store.slots[k] = s.store.slots[k])) ∧
          exec (.release src tag n) s = .next (t.answered (okFrame s.own src tag 21
            ([1] ++ toBytes 4 upto.toNat ++ [byteOf ((List.finRange 64).filter (fun k : SlotNo =>
              s.store.slots[k].isStored && t.store.slots[k].isFree)).length]))).kick))

/-- R140, R142, R143 and R145: DRAIN START is refused BADARG for an unknown mode or a count above 63 and BUSY while a
run is active; else the run starts for the requester, with one record to deliver in SINGLE and count + 1 otherwise,
and answers how many records are undelivered. DRAIN STOP ends a run with cause STOPPED and is refused BADSTATE
without one. A run that ends leaves the hold OFF, sets the terminal latch for COUNT and DRY, and raises DRAIN_DONE
with its cause and count, its mode, destination, remaining and delivered items kept (the model's reading: log 19).
The pace timer's expiry lets channel 1 be ready again. -/
def Obligations.DrainChannels : Prop :=
  ∀ s : State,
    (s.rstn = true → timerDue s.now s.pace = true →
      exec .paceTimerExpiry s = .next ({ s with pace := none } : State).kick) ∧
    (s.rstn = true → timerDue s.now s.pace = false → exec .paceTimerExpiry s = .next s.kick) ∧
    (∀ c : EndCause, s.endRun c =
      ({ s with
        drain0 := { s.drain0 with running := false }, line := { s.line with hold := .off },
        notices := { s.notices with latches := { s.notices.latches with
          terminal := s.notices.latches.terminal || c != .stopped } } } : State).raise
        .drainDone 0 (c.code * 256 + s.drain0.delivered)) ∧
    (∀ (src : Addr) (tag : Byte) (i : Fin 4), s.serves src i false = true →
      (s.drain0.running = true → exec (.drainStop src tag) s =
        .next ((s.endRun .stopped).answered (okFrame s.own src tag 20 [byteOf s.drain0.delivered])).kick) ∧
      (s.drain0.running = false → exec (.drainStop src tag) s =
        .next (s.answered (errFrame s.own src tag 20 4 [])).kick) ∧
      (∀ m n : Byte, 3 ≤ m.toNat ∨ 64 ≤ n.toNat → exec (.drainStart src tag m n) s =
        .next (s.answered (errFrame s.own src tag 19 3 [])).kick) ∧
      (∀ m n : Byte, m.toNat < 3 → n.toNat < 64 → s.drain0.running = true → exec (.drainStart src tag m n) s =
        .next (s.answered (errFrame s.own src tag 19 2 [])).kick) ∧
      (∀ (m n : Byte) (mode : DrainMode), m.toNat = mode.code → n.toNat < 64 → s.drain0.running = false →
        exec (.drainStart src tag m n) s =
          .next (({ s with drain0 := {
              running := true, mode := some mode, dest := some src,
              remaining := if mode = .single then 1 else n.toNat + 1, delivered := 0 } } : State).answered
            (okFrame s.own src tag 19 [byteOf ((List.finRange 64).filter (fun k : SlotNo =>
              (s.store.numberAt (fun d => !d.delivered0) k).isSome)).length])).kick))

/-! ## Management: reads -/

/-- R161, R169, R170, R173 and R129: IDENT answers part number, version, own address, mode and level; STATUS answers
the 50 bytes of Table 110 (channel 0's mode and destination are 255 before the first run and stay those of the last
run after it: log 19; an absent next record carries 0) and clears the latches; COUNTERS answers the twelve counters
and clears them with their half-mark flags; NOTICE ENABLE sets the mask and answers the one before; SERIAL BASE sets
the serial counter and answers the one before. -/
def Obligations.ShortReads : Prop :=
  ∀ (s : State) (src : Addr) (tag : Byte) (i : Fin 4), s.serves src i false = true →
    exec (.ident src tag) s = .next (s.answered (okFrame s.own src tag 1
      [0x7A, 0x16, 1, addrByte s.own, byteOf s.mode.code, byteOf (s.levelOf i).code])).kick ∧
    (∃ d : List Byte, d.length = 50 ∧
      exec (.status src tag) s =
        .next (({ s with notices := { s.notices with latches := .clear } } : State).answered
          (okFrame s.own src tag 2 d)).kick ∧
      d.getD 0 0 = byteOf s.mode.code ∧
      (∀ p : PressNo, d.getD (1 + p.val) 0 = byteOf s.presses[p].state.code) ∧
      (∀ z : ZoneNo, d.getD (5 + z.val) 0 = byteOf s.zones[z].state.code) ∧
      d.getD 21 0 = byteOf s.charges.length ∧ d.getD 22 0 = byteOf (s.store.countSlots Slot.isFree) ∧
      d.getD 23 0 = byteOf (s.store.countSlots Slot.isReserved) ∧
      d.getD 24 0 = byteOf (s.store.countSlots Slot.isStored) ∧
      (∀ m, s.drain0.mode = some m → d.getD 26 0 = byteOf m.code) ∧ (s.drain0.mode = none → d.getD 26 0 = 255) ∧
      (∀ a, s.drain0.dest = some a → d.getD 27 0 = addrByte a) ∧ (s.drain0.dest = none → d.getD 27 0 = 255) ∧
      (∀ k r x, s.store.next0 = some k → s.store.slots[k] = .stored r x →
        (d.drop 31).take 4 = toBytes 4 r.number.toNat) ∧
      (s.store.next0 = none → (d.drop 31).take 4 = [0, 0, 0, 0]) ∧
      d.getD 37 0 = byteOf ((List.finRange 64).filter (fun k : SlotNo =>
        (s.store.numberAt (fun x => x.owed1 && !x.delivered1) k).isSome)).length ∧
      (∀ k r x, s.store.next1 = some k → s.store.slots[k] = .stored r x →
        (d.drop 39).take 4 = toBytes 4 r.number.toNat) ∧
      (s.store.next1 = none → (d.drop 39).take 4 = [0, 0, 0, 0]) ∧
      d.getD 25 0 = flagByte s.drain0.running ∧ d.getD 28 0 = byteOf s.drain0.remaining ∧
      d.getD 29 0 = byteOf s.drain0.delivered ∧ d.getD 30 0 = flagByte s.store.next0.isSome ∧
      d.getD 35 0 = flagByte (s.tables.sys.recorder != 0) ∧ d.getD 36 0 = flagByte s.pace.isSome ∧
      d.getD 38 0 = flagByte s.store.next1.isSome ∧ d.getD 43 0 = flagByte s.loss.lost ∧
      d.getD 44 0 = packFlags [s.loss.silence, s.loss.burst] ∧ d.getD 45 0 = flagByte s.sync.lost ∧
      d.getD 46 0 = byteOf s.census.state.code ∧ d.getD 47 0 = flagByte s.census.passLatch ∧
      d.getD 48 0 = byteOf s.notices.queue.length ∧
      d.getD 49 0 = packFlags [s.notices.latches.silence, s.notices.latches.errorBurst,
        s.notices.latches.syncLoss, s.notices.latches.overrun, s.notices.latches.overflow,
        s.notices.latches.terminal, s.notices.latches.caughtUp]) ∧
    exec (.counters src tag) s = .next (({ s with notices := { s.notices with
        counters := Vector.replicate 12 0, half := Vector.replicate 12 false } } : State).answered
      (okFrame s.own src tag 3 (s.notices.counters.toList.map byteOf))).kick ∧
    (s.serves src i true = true →
      (∀ m : BitVec 24, exec (.noticeEnable src tag m) s =
        .next (({ s with notices := { s.notices with mask := m } } : State).answered
          (okFrame s.own src tag 4 (toBytes 3 s.notices.mask.toNat))).kick) ∧
      (∀ v : Number, exec (.serialBase src tag v) s =
        .next (({ s with store := { s.store with serial := v } } : State).answered
          (okFrame s.own src tag 23 (toBytes 4 s.store.serial.toNat))).kick))

/-- R154, R156 and R159: a read beyond its table is refused BADARG; one that fits a frame and waits on no posted
write is answered at once with the entries in order; any other opens the requester's context, or is refused BUSY
where one is open. It waits for the last posted write to a table named in its row of Table 86. TABLE READ MARK takes
one entry of a writable table, and sets the requester's mark on it when it is accepted. R156, R177: a write that
passed its checks, once applied, reads back as the bytes it carried, the clamped fields as clamped and the bits
and bytes that are not examined as 0, a curve with its validity behind it; the entries of the read-only tables carry
their fields in the order of their rules. The bits ignored (logs 12, 13), unsigned setpoints (log 14), the open fields
of a cycle (log 16), of a census without a result (log 17) and the order of the zone entry (log 18) are the model's
reading. -/
def Obligations.TableReads : Prop :=
  (∀ (s : State) (table entry : Nat) (bs : List Byte) (w : Write), writeSize table = some bs.length →
    s.checkWrite table entry bs = .accept w →
    let u8 (k : Nat) : Nat := (bs.getD k 0).toNat
    let u16 (k : Nat) : Nat := 256 * u8 k + u8 (k + 1)
    let s16 (k : Nat) : Int := if u16 k < 32768 then u16 k else (u16 k : Int) - 65536
    let low6 (k : Nat) : Byte := bs.getD k 0 &&& 63
    let part (k n : Nat) : List Byte := (bs.drop k).take n
    let read := (s.applyWrite w).entryBytes table entry
    (table = 0 → read = [low6 0] ++ part 1 2 ++ (if u8 2 = 0 ∨ u8 2 = 2 then [0] else part 3 1) ++ part 4 1) ∧
    (table = 1 → read = bs ++ [1]) ∧
    (table = 2 → read = bs) ∧
    (table = 3 → read = part 0 1 ++ toBytesInt (max (-100) (min 100 (s16 1))) ++ [low6 3] ++ part 4 1 ++
      toBytes 2 (min 1000 (u16 5)) ++ part 7 1) ∧
    (table = 4 → read = (List.range 6).flatMap (fun k => toBytes 2 (min 3500 (u16 (2 * k)))) ++ part 12 2 ++
      toBytes 2 (min 1000 (u16 14)) ++ part 16 36 ++
      [byteOf (max 1 (min 8 (u8 52))), byteOf (min 3 (u8 53)), bs.getD 54 0 &&& 1]) ∧
    (table = 5 → read = part 0 1 ++ part 1 (u8 0) ++ List.replicate (6 - u8 0) 0 ++ part 7 8 ++ [low6 15] ++
      part 16 1 ++ [low6 17, bs.getD 18 0 &&& 1] ++ part 19 6) ∧
    (table = 6 → read = if u8 2 = 0 then [0, 0, 0, 0] else [low6 0] ++ part 1 3) ∧
    (table = 7 → read = part 0 10 ++ [byteOf (max 4 (min 16 (u8 10)))] ++ part 11 4 ++ [low6 15] ++ part 16 3 ++
      [low6 19]) ∧
    (table = 8 → read = if u8 0 = 255 then [255, 255] else bs)) ∧
  (∀ s : State,
    (∀ v, s.census.verdict = some v → s.entryBytes 9 0 = [byteOf s.census.state.code, byteOf v.code,
      byteOf s.census.expected, byteOf s.census.missing.length] ++ s.census.missing.map addrByte) ∧
    (s.census.verdict = none → s.entryBytes 9 0 = [byteOf s.census.state.code, 255, 255, 255]) ∧
    (∀ (t : TargetNo) (k : Byte),
      ((∃ i : Fin 64, s.tables.cht[i].target = some t ∧ k = byteOf i.val ∧
          ∀ j : Fin 64, j < i → s.tables.cht[j].target ≠ some t) ∨
        (k = 255 ∧ ∀ i : Fin 64, s.tables.cht[i].target ≠ some t)) →
      (s.targets[t] = .unbound → s.entryBytes 10 t.val = [0, 255, 255, 255, 0, 0, 0, 0, 255, 255, 255, 255]) ∧
      (s.targets[t] = .unrefreshed →
        s.entryBytes 10 t.val = [1, k, 255, 255, 0, 0, 0, 0, 255, 255, 255, 255]) ∧
      (∀ v a m, s.targets[t] = .fresh v a m →
        s.entryBytes 10 t.val = [2, k] ++ toBytes 2 v ++ toBytes 4 a.toNat ++ toBytes 4 (s.now - a).toNat) ∧
      (∀ v a, s.targets[t] = .stale v a →
        s.entryBytes 10 t.val = [3, k] ++ toBytes 2 v ++ toBytes 4 a.toNat ++ toBytes 4 (s.now - a).toNat)) ∧
    (∀ z : ZoneNo, let q := s.zones[z]
      let signed (t : Option Int) : List Byte := (t.map toBytesInt).getD [128, 0]
      ∃ place : List Byte, place.length = 2 ∧
        (∀ p k, s.pressOf z = some p → s.positionOf z = some k → place = [byteOf p.val, byteOf k]) ∧
        (s.pressOf z = none → place = [255, 255]) ∧
        s.entryBytes 11 z.val = [byteOf q.state.code] ++ place ++ toBytes 2 q.integ ++ toBytes 2 q.lastDuty ++
          toBytes 2 q.preset ++ [byteOf q.staleCount, packFlags [q.sensorFault, q.staleSeen, q.syncLost]] ++
          signed q.temp ++ [byteOf q.range.code] ++ signed q.cycMin ++ signed q.cycMax ++
          [packFlags [q.underSeen, q.overSeen]] ++ toBytes 3 q.cure ++ [flagByte q.cureHot]) ∧
    (let w := s.weigh
      let small (r : Option RecipeNo) : Byte := (r.map (fun x => byteOf x.val)).getD 255
      let spread : List Byte := if w.window = [] then [255, 255] else toBytes 2 (windowSpread w.window)
      let head := [byteOf w.state.code, small w.recipe] ++ (w.last.map (toBytes 2)).getD [255, 255] ++
        [byteOf w.window.length] ++ spread
      (∀ v x d, w.state = .stable v x d →
        s.entryBytes 12 0 = head ++ [byteOf v.code] ++ toBytes 2 x ++ toBytesInt d) ∧
      ((∀ v x d, w.state ≠ .stable v x d) → s.entryBytes 12 0 = head ++ [255, 255, 255, 128, 0])) ∧
    (∀ (k : Nat),
      (∀ e, s.charges[k]? = some e → s.entryBytes 13 k = toBytes 2 e.number.toNat ++ [byteOf e.recipe.val] ++
        toBytes 2 e.weight ++ toBytesInt e.dev ++ toBytes 4 e.accepted.toNat ++ toBytes 4 e.expiry.toNat ++
        [byteOf e.slot.val] ++ toBytes 4 (e.expiry - s.now).toNat) ∧
      (s.charges.length ≤ k → s.entryBytes 13 k = List.replicate 20 255)) ∧
    (∀ p : PressNo, let q := s.presses[p]
      let small (n : Option Nat) : Byte := (n.map byteOf).getD 255
      let left (t : Option Timer) : List Byte :=
        (t.map (fun t => toBytes 4 (BitVec.ofNat 32 t.dur - (s.now - t.start)).toNat)).getD [0, 0, 0, 0]
      let running : Option Timer := if q.closeT.isSome then q.closeT else if q.openT.isSome then q.openT else q.ejectT
      let segment : Option Nat := if q.state = .ejecting
        then q.recipe.bind (fun r => q.ejectStart.map (fun t0 =>
          min 7 ((s.now - t0).toNat / s.tables.rt[r].segLen)))
        else none
      let e := s.entryBytes 14 p.val
      e.take 20 = [byteOf q.state.code, small (q.recipe.map (·.val)), small (q.slot.map (·.val)),
          packFlags [q.dwellDone, q.override, q.hold.isSome, s.guard[p].accepted == .open,
            s.tables.pt[p].guardUsed, s.tables.pt[p].guardUsed && s.guard[p].accepted == .open]] ++
        (q.closed.map (fun t => toBytes 4 t.toNat)).getD [0, 0, 0, 0] ++ left q.dwellT ++ left q.holdT ++
        left running ∧
      (∀ c r, q.cycle = some c → q.recipe = some r → (e.drop 20).take 24 =
        [0, byteOf p.val, byteOf r.val, byteOf c.zoneCount] ++ toBytes 4 ((c.serial.map (·.toNat)).getD 0) ++
          toBytes 2 c.chargeNo.toNat ++ toBytes 2 c.weight ++ toBytesInt c.dev ++ toBytes 2 c.age ++
          (c.cureTime.map (toBytes 2)).getD [255, 255] ++ [255, 255] ++ toBytes 2 q.peak ++
          [byteOf (16 * c.retries + 15), packFlags [c.serial.isSome, false, false, false, c.guardOpened,
            c.closeTimeout, c.openTimeout, c.lineLoss]]) ∧
      e.drop 44 = [byteOf q.stroke] ++ (q.ejectStart.map (fun t => toBytes 4 t.toNat)).getD [0, 0, 0, 0] ++
        [small segment, byteOf q.debounce] ++ toBytes 2 q.peak ++
        [small q.peakSeg, small q.peakStroke, small (q.stuckCause.map (·.code)), byteOf q.halt.code]) ∧
    (∀ i : SlotNo,
      (s.store.slots[i] = .free → s.entryBytes 15 i.val = [0, 0] ++ List.replicate 11 255 ++ [0]) ∧
      (∀ n, s.store.slots[i] = .reserved (.charge n) →
        s.entryBytes 15 i.val = [1, 1] ++ toBytes 2 n.toNat ++ List.replicate 9 255 ++ [0]) ∧
      (∀ p, s.store.slots[i] = .reserved (.press p) →
        s.entryBytes 15 i.val = [1, 2] ++ toBytes 2 p.val ++ List.replicate 9 255 ++ [0]) ∧
      (∀ r d, s.store.slots[i] = .stored r d → s.entryBytes 15 i.val =
        [2, 0, 255, 255] ++ toBytes 4 r.number.toNat ++ [byteOf r.kind.code,
          (r.press.map (fun p => byteOf p.val)).getD 255, byteOf r.disposition.code] ++ toBytes 2 r.chargeNo.toNat ++
          [packFlags [d.delivered0, d.owed1, d.delivered1, d.released]]))) ∧
  ∀ (s : State) (src : Addr) (tag x a b : Byte) (i : Fin 4), s.serves src i false = true →
    let wait := waitCount x.toNat s.agent.posted
    let awaits (w : Write) : Prop :=
      (w.table = 0 ∧ (x = 0 ∨ x = 10)) ∨ (w.table = 1 ∧ (x = 1 ∨ x = 11)) ∨ (w.table = 2 ∧ x = 2) ∨
        (w.table = 3 ∧ (x = 3 ∨ x = 11))
    let marked (t : State) : State := { t with agent := { t.agent with
      marks := t.agent.marks.set i (some { table := x.toNat, entry := a.toNat }) } }
    let opened (op : Byte) (n : Nat) : State := { s with agent := { s.agent with
      contexts := s.agent.contexts.set i (some
        { tag := tag, op := op, what := .table x.toNat a.toNat n, part := 0, wait := wait }) } }
    let no (op code : Byte) : State := s.answered (errFrame s.own src tag op code [])
    let read (c : Instr) (op : Byte) (n : Nat) (after : State → State) : Prop :=
      (wait = 0 → n ≤ 59 / readSize x.toNat → exec c s =
        .next ((after s).answered (okFrame s.own src tag op
          ((List.range n).flatMap (fun k => s.entryBytes x.toNat (a.toNat + k))))).kick) ∧
      (wait ≠ 0 ∨ 59 / readSize x.toNat < n → s.agent.contexts[i] ≠ none → exec c s = .next (no op 2).kick) ∧
      (wait ≠ 0 ∨ 59 / readSize x.toNat < n → s.agent.contexts[i] = none →
        exec c s = .next (after (opened op n)).kick)
    (∀ (before after : List Write) (w : Write), s.agent.posted = before ++ w :: after →
      awaits w → (∀ v ∈ after, ¬awaits v) → wait = before.length + 1) ∧
    ((∀ w ∈ s.agent.posted, ¬awaits w) → wait = 0) ∧
    (15 < x.toNat ∨ b = 0 ∨ tableEntries x.toNat < a.toNat + b.toNat →
      exec (.tableRead src tag x a b) s = .next (no 5 3).kick) ∧
    (x.toNat ≤ 15 → b ≠ 0 → a.toNat + b.toNat ≤ tableEntries x.toNat →
      read (.tableRead src tag x a b) 5 b.toNat (fun t => t)) ∧
    (8 < x.toNat ∨ tableEntries x.toNat ≤ a.toNat →
      exec (.tableReadMark src tag x a) s = .next (no 6 3).kick) ∧
    (x.toNat ≤ 8 → a.toNat < tableEntries x.toNat → read (.tableReadMark src tag x a) 6 1 marked)

/-- The history record in bytes: the 28 bytes of its fixed part (Table 111), the 6 bytes of each per-zone part in list
order (Table 112), multi-byte fields most significant byte first, flags from bit 0 up and absent fields as R178 gives,
and the payload of a HIST frame, the one followed by the others (R132, R174). R147, R154 and R155: RECORD READ opens
the requester's context, or is refused BUSY where one is open. With at most two responses queued the first ready
context from the turn on builds its next part from the state as it stands, the turn passes on, and the LAST part
closes the context: a table's entries as many as fit; of a record, slot, delivery and fixed part, then its zone parts,
or GONE where it is not stored. Otherwise no part is built. -/
def Obligations.RecordBytesAndLongReads : Prop :=
  (∀ v : Nat, toBytes 2 v = [byteOf (v / 256), byteOf v] ∧
    toBytes 4 v = [byteOf (v / 16777216), byteOf (v / 65536), byteOf (v / 256), byteOf v]) ∧
  (∀ (flags : List Bool) (k : Nat), flags.length ≤ 8 → (packFlags flags).getLsbD k = flags.getD k false) ∧
  (∀ r : Record,
    let kind : Byte := if r.kind = .part then 0 else 1
    let disposition : Nat := match r.disposition with
      | .good => 0 | .override => 1 | .scrap => 2 | .aborted => 3 | .expired => 4 | .discarded => 5
      | .rejectUnder => 6 | .rejectOver => 7 | .noQueue => 8
    let press : Byte := (r.press.map (fun p => byteOf p.val)).getD 255
    let seconds (t : Option Nat) : List Byte := (t.map (toBytes 2)).getD [255, 255]
    let signed (t : Option Int) : List Byte := (t.map toBytesInt).getD [128, 0]
    recordFixed r =
      toBytes 4 r.number.toNat ++ [kind, press, byteOf r.recipe.val, byteOf r.zoneCount] ++
        toBytes 4 ((r.serial.map (·.toNat)).getD 0) ++ toBytes 2 r.chargeNo.toNat ++ toBytes 2 r.weight ++
        toBytesInt r.dev ++ seconds r.age ++ seconds r.cureTime ++ toBytes 2 r.permille ++ toBytes 2 r.peak ++
        [byteOf (16 * r.retries + disposition), packFlags [r.serial.isSome, r.flags.staleZone, r.flags.syncLost,
          r.flags.cureHot, r.flags.guardOpened, r.flags.closeTimeout, r.flags.openTimeout, r.flags.lineLoss]] ∧
    (recordFixed r).length = 28 ∧
    recordZones r = r.zones.flatMap (fun z =>
      [byteOf z.zone.val, packFlags [z.staleSeen, z.sensorFault, z.underSeen, z.overSeen]] ++ signed z.min ++
        signed z.max) ∧
    (recordZones r).length = 6 * r.zones.length ∧
    ∀ (s : State) (dst : Addr),
      s.histFrame dst r = buildFrame s.own dst kindHist (recordFixed r ++ recordZones r)) ∧
  ∀ s : State,
    (∀ (src : Addr) (tag : Byte) (n : Number) (i : Fin 4), s.serves src i false = true →
      (s.agent.contexts[i] ≠ none → exec (.recordRead src tag n) s =
        .next (s.answered (errFrame s.own src tag 22 2 [])).kick) ∧
      (s.agent.contexts[i] = none → exec (.recordRead src tag n) s =
        .next ({ s with agent := { s.agent with contexts := s.agent.contexts.set i (some
          { tag := tag, op := 22, what := .record n, part := 0, wait := 0 }) } } : State).kick)) ∧
    (s.rstn = true →
      (3 ≤ s.agent.responses.length ∨ (∀ (i : Fin 4) c, s.agent.contexts[i] = some c → c.wait ≠ 0) →
        exec .longReadPart s = .next s.kick) ∧
      (∀ (i k : Fin 4) (c : Context), s.agent.responses.length ≤ 2 → i = s.agent.turn + k →
        s.agent.contexts[i] = some c → c.wait = 0 →
        (∀ j : Fin 4, j < k → ∀ x, s.agent.contexts[s.agent.turn + j] = some x → x.wait ≠ 0) →
        let built (code : Byte) (last : Bool) (data : List Byte) : Prop :=
          let flags : Byte := (if last then 1 else 0) + (if code = 0 then 0 else 2)
          let dst : Addr := (s.agent.acc[i]).elim 0 (·.addr)
          let next : Option Context := if last then none else some { c with part := c.part + 1 }
          exec .longReadPart s = .next (({ s with agent := { s.agent with
              contexts := s.agent.contexts.set i next, turn := i + 1 } } : State).answered
            (buildFrame s.own dst kindMrsp ([c.tag, c.op, code, byteOf c.part, flags] ++ data))).kick
        (∀ x a n, c.what = .table x a n →
          let per := 59 / readSize x
          built 0 (decide (n ≤ (c.part + 1) * per)) ((List.range (min per (n - c.part * per))).flatMap
            (fun j => s.entryBytes x (a + c.part * per + j)))) ∧
        (∀ n, c.what = .record n →
          ((∀ (k : SlotNo) r d, s.store.slots[k] = .stored r d → r.number ≠ n) → built 9 true []) ∧
          (∀ (k : SlotNo) r d, s.store.slots[k] = .stored r d → r.number = n →
            (∀ (j : SlotNo) r' d', j < k → s.store.slots[j] = .stored r' d' → r'.number ≠ n) →
            (c.part = 0 → built 0 false ([byteOf k.val, deliveryFlags d] ++ recordFixed r)) ∧
            (c.part ≠ 0 → built 0 true (recordZones r))))))

/-! ## Management: writes -/

/-- The checks of a table write (R26, R27, R40, R47, R56, R73, R95, R97, R98, R145, R151, R160, R177): a write that
fails one is refused with the result of the first that fails, in the order of its table's rule, and one that fails
none is accepted. What an accepted write holds: its own table and entry, each field as its bytes of the content carry
it, the clamped ones clamped, and every field within its range; no key, target, heater output, zone, gate match or
address that another entry has, and at most 8 zones a heater node. The entry number 0 of an accepted SYS write (log
15), the bits ignored in addresses and flags (logs 12, 13) and unsigned setpoints (log 14) are the model's reading. -/
def Obligations.TableWriteChecks : Prop :=
  (∀ (s : State) (table entry : Nat) (bs : List Byte), writeSize table = some bs.length →
    let u8 (k : Nat) : Nat := (bs.getD k 0).toNat
    let u16 (k : Nat) : Nat := 256 * u8 k + u8 (k + 1)
    let s16 (k : Nat) : Int := if u16 k < 32768 then u16 k else (u16 k : Int) - 65536
    let addr (k : Nat) : Addr := (bs.getD k 0).setWidth 6
    let ahead : Tables := s.agent.posted.foldl Tables.after s.tables
    let judged (checks : List (MgmtResult × Prop)) : Prop :=
      checks.foldr (fun (result, fails) rest =>
          (fails → s.checkWrite table entry bs = .refuse result) ∧ (¬fails → rest))
        (∃ w, s.checkWrite table entry bs = .accept w)
    (table = 0 → judged [
      (.badArg, 63 < entry), (.badArg, 5 < u8 2),
      (.badArg, (u8 2 = 1 ∧ 15 < u8 3) ∨ (3 ≤ u8 2 ∧ 3 < u8 3)),
      (.badArg, 15 < u8 1), (.badArg, u8 4 = 0),
      (.badArg, u8 2 ≠ 0 ∧ ∃ j : Fin 64, j.val ≠ entry ∧ ahead.cht[j].role ≠ .none ∧
        ((ahead.cht[j].node = addr 0 ∧ ahead.cht[j].channel = u8 1) ∨
          (ahead.cht[j].role.code = u8 2 ∧ (u8 2 = 2 ∨ ahead.cht[j].index = u8 3))))]) ∧
    (table = 1 → judged [
      (.badArg, 1 < entry), (.badArg, ∃ k < 13, s16 (4 * k + 2) < -400 ∨ 4000 < s16 (4 * k + 2)),
      (.badArg, ∃ k < 12, u16 (4 * k + 4) ≤ u16 (4 * k))]) ∧
    (table = 2 → judged [(.badArg, 3 < entry), (.badArg, ∃ k < 24, 4095 < u16 (2 * k))]) ∧
    (table = 3 → judged [
      (.badArg, 15 < entry), (.badArg, 1 < u8 0), (.badArg, 47 < (addr 3).toNat), (.badArg, 15 < u8 4),
      (.badArg, 15 < u8 7),
      (.badState, s.mode = .run ∧ ∃ z : ZoneNo, z.val = entry ∧
        (ahead.zt[z].heater ≠ addr 3 ∨ ahead.zt[z].channel ≠ u8 4)),
      (.badArg, addr 3 ≠ 0 ∧ ∃ z : ZoneNo, z.val ≠ entry ∧ ahead.zt[z].heater = addr 3 ∧
        ahead.zt[z].channel = u8 4),
      (.badArg, addr 3 ≠ 0 ∧
        8 ≤ ((List.finRange 16).filter (fun z : ZoneNo => z.val != entry && ahead.zt[z].heater == addr 3)).length)]) ∧
    (table = 4 → judged [
      (.badArg, 7 < entry),
      (.badState, ∃ (p : PressNo) (r : RecipeNo), r.val = entry ∧ s.presses[p].recipe = some r ∧
        s.presses[p].state.inCycle = true),
      (.badArg, 60000 < u16 16 ∨ 60000 < u16 18 ∨ 60000 < u16 20 ∨ u16 22 = 0 ∨ u16 48 < 10 ∨ 5000 < u16 48),
      (.badState, (65536 * u8 25 + u16 26 = 0 ∨ 3 < u8 24) ∧ ∃ r : RecipeNo, r.val = entry ∧
        ((∃ p : PressNo, s.presses[p].recipe = some r) ∨ s.weigh.recipe = some r))]) ∧
    (table = 5 → judged [
      (.badArg, 3 < entry),
      (.badState, s.mode = .run ∧ ∃ p : PressNo, p.val = entry ∧ s.presses[p].state ≠ .idle),
      (.badArg, 6 < u8 0 ∨ (∃ k < u8 0, 15 < u8 (1 + k)) ∨
        ∃ k < u8 0, ∃ j < k, u8 (1 + j) = u8 (1 + k)),
      (.badArg, 47 < (addr 15).toNat ∨ 47 < (addr 17).toNat), (.badArg, u8 0 ≠ 0 ∧ addr 15 = 0),
      (.badArg, ∃ k ∈ [19, 21, 23], u16 k < 100 ∨ 60000 < u16 k),
      (.badArg, ∃ k < u8 0, ∃ p : PressNo, p.val ≠ entry ∧ ∃ z ∈ s.tables.pt[p].zones, z.val = u8 (1 + k))]) ∧
    (table = 6 → judged [
      (.badArg, 15 < entry), (.badState, s.mode = .run), (.badArg, 3 < u8 2 ∨ 3 < u8 3),
      (.badArg, u8 2 ≠ 0 ∧ (addr 0 = 0 ∨ 47 < (addr 0).toNat)),
      (.badArg, u8 2 ≠ 0 ∧ ∃ j : Fin 16, j.val ≠ entry ∧ s.tables.gt[j].cls ≠ .none ∧
        s.tables.gt[j].dest = addr 0 ∧ s.tables.gt[j].code = bs.getD 1 0)]) ∧
    (table = 7 → judged [
      (.badArg, entry ≠ 0), (.badState, s.mode = .run),
      (.badArg, u8 0 < 1 ∨ 64 < u8 0 ∨ u8 1 = 0 ∨ u16 2 < 5 ∨ 1000 < u16 2 ∨ u8 4 < 1 ∨ 50 < u8 4 ∨ 1 < u8 5 ∨
        u16 8 = 0 ∨ 1000 < u16 11 ∨ u16 13 = 0 ∨ 60000 < u16 13 ∨ 47 < (addr 15).toNat ∨
        (u8 16 ≠ 1 ∧ u8 16 ≠ 4) ∨ u8 17 = 0 ∨ 64 < u8 17 ∨ 63 < u8 18 ∨ 62 < (addr 19).toNat)]) ∧
    (table = 8 → judged [
      (.badArg, 3 < entry), (.badState, s.mode = .run),
      (.badArg, u8 0 ≠ 255 ∧ (62 < u8 0 ∨ addr 0 = s.own ∨ 1 < u8 1)),
      (.badArg, u8 0 ≠ 255 ∧ ∃ (j : Fin 4) (x : AccEntry), j.val ≠ entry ∧ s.agent.acc[j] = some x ∧
        x.addr = addr 0),
      (.badArg, (u8 0 = 255 ∨ u8 1 = 0) ∧ ∀ (j : Fin 4) (x : AccEntry), j.val ≠ entry → s.agent.acc[j] = some x →
        x.level = .read)])) ∧
  ∀ (s : State) (table entry : Nat) (bs : List Byte) (w : Write), writeSize table = some bs.length →
    s.checkWrite table entry bs = .accept w →
    let u8 (k : Nat) : Nat := (bs.getD k 0).toNat
    let u16 (k : Nat) : Nat := 256 * u8 k + u8 (k + 1)
    let s16 (k : Nat) : Int := if u16 k < 32768 then u16 k else (u16 k : Int) - 65536
    let addr (k : Nat) : Addr := (bs.getD k 0).setWidth 6
    let flag (k : Nat) : Bool := (bs.getD k 0).getLsbD 0
    let ahead : Tables := s.agent.posted.foldl Tables.after s.tables
    w.table = table ∧ w.entry = entry ∧ entry < tableEntries table ∧
    (∀ i e, w = .cht i e →
      e.node = addr 0 ∧ e.channel = u8 1 ∧ e.role.code = u8 2 ∧ e.ageUnits = u8 4 ∧
      e.index = (if e.role = .none ∨ e.role = .weigh then 0 else u8 3) ∧
      e.channel ≤ 15 ∧ 1 ≤ e.ageUnits ∧ e.ageUnits ≤ 255 ∧ (e.role ≠ .none → e.target.isSome = true) ∧
      (e.role ≠ .none → ∀ j : Fin 64, j ≠ i → ahead.cht[j].role ≠ .none →
        ¬(ahead.cht[j].node = e.node ∧ ahead.cht[j].channel = e.channel) ∧ ahead.cht[j].target ≠ e.target)) ∧
    (∀ i c, w = .lin i c → c = (List.range 13).map (fun k => { raw := u16 (4 * k), temp := s16 (4 * k + 2) }) ∧
      c.Pairwise (fun a b => a.raw < b.raw) ∧ ∀ b ∈ c, -400 ≤ b.temp ∧ b.temp ≤ 4000) ∧
    (∀ i r, w = .crt i r → r = (List.range 24).map (fun k => u16 (2 * k)) ∧ ∀ x ∈ r, x ≤ 4095) ∧
    (∀ z e, w = .zt z e → e.curve.val = u8 0 ∧
      e = { curve := e.curve, offset := max (-100) (min 100 (s16 1)), heater := addr 3, channel := u8 4,
            fallback := min 1000 (u16 5), grace := u8 7 } ∧
      e.heater.toNat ≤ 47 ∧ e.channel ≤ 15 ∧ e.grace ≤ 15 ∧
      (s.mode = .run → e.heater = ahead.zt[z].heater ∧ e.channel = ahead.zt[z].channel) ∧
      (e.heater ≠ 0 →
        (∀ j : ZoneNo, j ≠ z → ¬(ahead.zt[j].heater = e.heater ∧ ahead.zt[j].channel = e.channel)) ∧
        ((List.finRange 16).filter (fun j : ZoneNo => j == z || ahead.zt[j].heater == e.heater)).length ≤ 8)) ∧
    (∀ i r, w = .rt i r →
      r = { setpoints := (List.range 6).map (fun k => min 3500 (u16 (2 * k))), kp := u8 12, ki := u8 13,
            ceiling := min 1000 (u16 14), target := u16 16, tolLow := u16 18, tolHigh := u16 20,
            outTime := u16 22, cureTable := u8 24, threshold := 65536 * u8 25 + u16 26, dwell := u16 28,
            openHold := u16 30, segMax := (List.range 8).map (fun k => u16 (32 + 2 * k)), segLen := u16 48,
            peakLimit := u16 50, debounce := max 1 (min 8 (u8 52)), retries := min 3 (u8 53),
            overrideOk := flag 54 } ∧
      r.target ≤ 60000 ∧ r.tolLow ≤ 60000 ∧ r.tolHigh ≤ 60000 ∧ 1 ≤ r.outTime ∧ 10 ≤ r.segLen ∧
      r.segLen ≤ 5000 ∧
      (∀ p : PressNo, s.presses[p].recipe = some i → s.presses[p].state.inCycle = false) ∧
      ((∃ p : PressNo, s.presses[p].recipe = some i) ∨ s.weigh.recipe = some i →
        0 < r.threshold ∧ r.cureTable ≤ 3)) ∧
    (∀ p e, w = .pt p e → e.zones.map (·.val) = (List.range (u8 0)).map (fun k => u8 (1 + k)) ∧
      e = { zones := e.zones, closedAt := u16 7, openAt := u16 9, outAt := u16 11, homeAt := u16 13,
            ejector := addr 15, haltCode := bs.getD 16 0, marker := addr 17, guardUsed := flag 18,
            closeMs := u16 19, openMs := u16 21, ejectMs := u16 23 } ∧
      e.zones.length ≤ 6 ∧ e.zones.Nodup ∧ e.ejector.toNat ≤ 47 ∧ e.marker.toNat ≤ 47 ∧
      (e.zones ≠ [] → e.ejector ≠ 0) ∧ 100 ≤ e.closeMs ∧ e.closeMs ≤ 60000 ∧ 100 ≤ e.openMs ∧
      e.openMs ≤ 60000 ∧ 100 ≤ e.ejectMs ∧ e.ejectMs ≤ 60000 ∧
      (∀ q : PressNo, q ≠ p → ∀ z ∈ e.zones, z ∉ s.tables.pt[q].zones) ∧
      (s.mode = .run → s.presses[p].state = .idle)) ∧
    (∀ i e, w = .gt i e → s.mode = .config ∧ e.cls.code = u8 2 ∧ u8 3 ≤ 3 ∧
      (e.cls = .none → e = { dest := 0, code := 0, cls := .none, press := 0 }) ∧
      (e.cls ≠ .none → e.dest = addr 0 ∧ e.code = bs.getD 1 0 ∧ e.press.val = u8 3 ∧ 1 ≤ e.dest.toNat ∧
        e.dest.toNat ≤ 47 ∧ ∀ j : Fin 16, j ≠ i → s.tables.gt[j].cls ≠ .none →
          ¬(s.tables.gt[j].dest = e.dest ∧ s.tables.gt[j].code = e.code))) ∧
    (∀ y, w = .sys y → s.mode = .config ∧
      y = { ctrldiv := u8 0, silenceMs := u8 1, syncMs := u16 2, censusMs := u8 4,
            censusRequired := decide (u8 5 = 1), weighZero := u16 6, weighGain := u16 8,
            weighM := max 4 (min 16 (u8 10)), weighBand := u16 11, weighEmpty := u16 13, recorder := addr 15,
            paceUnit := u8 16, paceFactor := u8 17, lowMark := u8 18, noticeDest := addr 19 } ∧
      1 ≤ y.ctrldiv ∧ y.ctrldiv ≤ 64 ∧ 1 ≤ y.silenceMs ∧ y.silenceMs ≤ 255 ∧ 5 ≤ y.syncMs ∧ y.syncMs ≤ 1000 ∧
      1 ≤ y.censusMs ∧ y.censusMs ≤ 50 ∧ u8 5 ≤ 1 ∧ 1 ≤ y.weighGain ∧ 4 ≤ y.weighM ∧ y.weighM ≤ 16 ∧
      y.weighBand ≤ 1000 ∧ 1 ≤ y.weighEmpty ∧ y.weighEmpty ≤ 60000 ∧ y.recorder.toNat ≤ 47 ∧
      (y.paceUnit = 1 ∨ y.paceUnit = 4) ∧ 1 ≤ y.paceFactor ∧ y.paceFactor ≤ 64 ∧ y.lowMark ≤ 63 ∧
      y.noticeDest.toNat ≤ 62) ∧
    (∀ i e, w = .acc i e → s.mode = .config ∧ (e = none ↔ u8 0 = 255) ∧
      (∀ x, e = some x → x.addr.toNat = u8 0 ∧ x.level.code = u8 1 ∧ x.addr.toNat ≤ 62 ∧ x.addr ≠ s.own ∧
        ∀ j : Fin 4, j ≠ i → ∀ o, s.agent.acc[j] = some o → o.addr ≠ x.addr) ∧
      ((∃ x, e = some x ∧ x.level = .write) ∨
        ∃ j : Fin 4, j ≠ i ∧ ∃ x, s.agent.acc[j] = some x ∧ x.level = .write))

/-- R157 to R159: a write that fails a check is refused with its result and changes nothing. One that passes clears
every mark on its entry, and for a table the census depends on the pass latch; it is applied at once and answered OK,
or, to a posted table in RUN, posted and answered POSTED, QFULL with four waiting; a CHT write with none ahead of it
is applied at once. Nothing changes but marks, census and what the apply does (its effects: PostedWritesApply); the OK
of a SYS write carries the number of obligations it waives, 0 for one that waives nothing (R146). TABLE WRITE IF
MARKED without the requester's mark on the entry is refused LOST. -/
def Obligations.TableWrites : Prop :=
  ∀ (s : State) (src : Addr) (tag x a : Byte) (content : List Byte) (i : Fin 4), s.serves src i true = true →
    writeSize x.toNat = some content.length →
    let out (c : Instr) (op : Byte) : Prop :=
      (∀ r, s.checkWrite x.toNat a.toNat content = .refuse r →
        exec c s = .next (s.answered (errFrame s.own src tag op (byteOf r.code) [])).kick) ∧
      (∀ w, s.checkWrite x.toNat a.toNat content = .accept w →
        let taken (t : State) : Prop :=
          (∀ j : Fin 4, (∀ m, s.agent.marks[j] = some m → m ≠ { table := w.table, entry := w.entry }) →
            (∀ y, w = .acc j y → (s.agent.acc[j]).map (·.addr) = y.map (·.addr)) →
            t.agent.marks[j] = s.agent.marks[j]) ∧
          (∀ j : Fin 4, s.agent.marks[j] = some { table := w.table, entry := w.entry } →
            t.agent.marks[j] = none) ∧
          (w.touchesCensus = true → t.census = { s.census with
            passLatch := false, dirty := s.census.dirty || s.census.state == .running }) ∧
          (w.touchesCensus = false → t.census = s.census)
        let marksOnly (u : State) : Prop := Only { agent := true, census := true } s u ∧
          { u.agent with marks := s.agent.marks } = s.agent
        let owed := ((List.finRange 64).filter (fun k : SlotNo =>
          (s.store.numberAt (fun d => d.owed1 && !d.delivered1) k).isSome)).length
        (s.mode = .config ∨ 3 < w.table →
          ∃ t data, exec c s = .next (t.answered (okFrame s.own src tag op data)).kick ∧ taken t ∧
            (∀ y, w = .sys y → data =
              [if s.tables.sys.recorder ≠ 0 ∧ y.recorder = 0 then byteOf owed else 0]) ∧
            ((∀ y, w ≠ .sys y) → data = []) ∧
            (∃ u, marksOnly u ∧ t = u.applyWrite w) ∧
            t.tables = s.tables.after w ∧ t.agent.posted = s.agent.posted ∧
            Only { tables := true, agent := true, census := true, targets := true, zones := true, weigh := true,
                   notices := true, store := true, pace := true } s t) ∧
        (s.mode = .run → w.table ≤ 3 → 4 ≤ s.agent.posted.length →
          exec c s = .next (s.answered (errFrame s.own src tag op 6 [])).kick) ∧
        (s.mode = .run → w.table ≤ 3 → s.agent.posted.length < 4 →
          ∃ t, exec c s =
              .next (t.answered (buildFrame s.own src kindMrsp [tag, op, 1, 0, 1])).kick ∧ taken t ∧
            (w.table = 0 → s.agent.posted = [] → t.agent.posted = [] ∧ t.tables = s.tables.after w ∧
              (∃ u, marksOnly u ∧ Only { agent := true } (u.applyWrite w) t) ∧
              { t.agent with marks := s.agent.marks, contexts := s.agent.contexts } = s.agent ∧
              ∀ j : Fin 4, t.agent.contexts[j] =
                (s.agent.contexts[j]).map (fun c => { c with wait := c.wait - 1 })) ∧
            (w.table ≠ 0 → s.agent.posted = [] → t.agent.posted = [w] ∧ t.tables = s.tables ∧
              ∃ u, marksOnly u ∧ t = { u with agent := { u.agent with posted := [w] } }) ∧
            (∀ v rest, s.agent.posted = v :: rest → v.table ≠ 0 →
              t.agent.posted = s.agent.posted ++ [w] ∧ t.tables = s.tables ∧
              ∃ u, marksOnly u ∧ t = { u with agent := { u.agent with posted := s.agent.posted ++ [w] } })))
    out (.tableWrite src tag x a content) 7 ∧
    (s.agent.marks[i] = some { table := x.toNat, entry := a.toNat } →
      out (.tableWriteIfMarked src tag x a content) 8) ∧
    (s.agent.marks[i] ≠ some { table := x.toNat, entry := a.toNat } →
      exec (.tableWriteIfMarked src tag x a content) s =
        .next (s.answered (errFrame s.own src tag 8 8 [])).kick)

/-- R28, R40, R57 and R158: at the end of a control period the LIN, CRT and ZT writes at the head of the posted
queue are applied in order, then the CHT writes directly behind them; no other; and a read waits for that many fewer
writes. R44: a LIN write reconverts the zones whose ZT entry names its curve, a ZT write its own zone if curve or
offset change, with the table as written. R29 and R45: a CHT write discards the value of the target its entry binds,
and of the one it bound before, and that zone's temperature with it; the weigh station then goes into or out of OFF
(R76). R58 and R95: a PT write clears each zone that leaves the list into UNASSIGNED and each that enters it into IDLE.
R146: a SYS write that clears the recorder address waives every obligation to channel 1, frees the released records and
stops the pace timer; any other leaves them. R151: an ACC write that empties an entry or changes its address abandons
its long read and clears its mark. CRT, RT and GT writes change their entry alone. -/
def Obligations.PostedWritesApply : Prop :=
  (∀ (s : State) (w : Write),
    let u : State := { s with tables := s.tables.after w }
    let t := s.applyWrite w
    (∀ p e, w = .pt p e → Only { tables := true, zones := true } s t ∧ t.tables = u.tables ∧
      ∀ z : ZoneNo, t.zones[z] =
        if z ∈ s.tables.pt[p].zones ∧ z ∉ e.zones then
          { s.zones[z] with state := .unassigned, integ := 0, lastDuty := 0, staleCount := 0, preset := 0 }
        else if z ∈ e.zones ∧ z ∉ s.tables.pt[p].zones then
          { s.zones[z] with state := .idle, integ := 0, lastDuty := 0, staleCount := 0, preset := 0 }
        else s.zones[z]) ∧
    (∀ y, w = .sys y →
      (s.tables.sys.recorder = 0 ∨ y.recorder ≠ 0 → t = u) ∧
      (s.tables.sys.recorder ≠ 0 → y.recorder = 0 →
        Only { tables := true, store := true, pace := true } s t ∧ t.tables = u.tables ∧ t.pace = none ∧
        { t.store with slots := s.store.slots } = s.store ∧
        ∀ k : SlotNo,
          (∀ r d, s.store.slots[k] = .stored r d → t.store.slots[k] =
            if d.released = true then .free
            else .stored r { d with owed1 := d.owed1 && d.delivered1 }) ∧
          ((∀ r d, s.store.slots[k] ≠ .stored r d) → t.store.slots[k] = s.store.slots[k]))) ∧
    (∀ i e, w = .acc i e → Only { agent := true } s t ∧
      t.agent = if (s.agent.acc[i]).map (·.addr) = e.map (·.addr) then { s.agent with acc := s.agent.acc.set i e }
        else { s.agent with acc := s.agent.acc.set i e, contexts := s.agent.contexts.set i none,
                            marks := s.agent.marks.set i none }) ∧
    (w.table = 2 ∨ w.table = 4 ∨ w.table = 6 → t = u) ∧
    (w.table = 1 ∨ w.table = 3 → Only { tables := true, zones := true } s t ∧ t.tables = u.tables) ∧
    (w.table = 0 → Only { tables := true, targets := true, zones := true, weigh := true, notices := true } s t ∧
      t.tables = u.tables ∧ t = ({ t with weigh := s.weigh, notices := s.notices } : State).weighGate) ∧
    (∀ i c, w = .lin i c → t.targets = s.targets ∧ ∀ z : ZoneNo, t.zones[z] =
      if s.tables.zt[z].curve = i then (u.reconvert z).zones[z] else s.zones[z]) ∧
    (∀ k e, w = .zt k e → t.targets = s.targets ∧ ∀ z : ZoneNo, t.zones[z] =
      if z = k ∧ (s.tables.zt[k].curve ≠ e.curve ∨ s.tables.zt[k].offset ≠ e.offset)
      then (u.reconvert z).zones[z] else s.zones[z]) ∧
    (∀ i e, w = .cht i e →
      (∀ x : TargetNo, t.targets[x] = if e.target = some x then .unrefreshed
        else if s.tables.cht[i].target = some x then .unbound else s.targets[x]) ∧
      (∀ z : ZoneNo, t.zones[z] =
        if e.target = some (zoneTarget z) ∨ s.tables.cht[i].target = some (zoneTarget z)
        then { s.zones[z] with temp := none, range := .none } else s.zones[z]))) ∧
  ∀ (s : State) (heat cht rest : List Write), s.agent.posted = heat ++ cht ++ rest →
    (∀ w ∈ heat, w.isHeat = true) → (∀ w ∈ cht, w.isCht = true) →
    (∀ w, rest.head? = some w → w.isCht = false) →
    (cht = [] → ∀ w, rest.head? = some w → w.isHeat = false) →
    let t := s.applyPeriodEnd
    Only { tables := true, targets := true, zones := true, weigh := true, notices := true, agent := true } s t ∧
    t.tables = (heat ++ cht).foldl Tables.after s.tables ∧
    t.agent.posted = rest ∧
    (∀ i : Fin 4, t.agent.contexts[i] =
      (s.agent.contexts[i]).map (fun c => { c with wait := c.wait - (heat.length + cht.length) })) ∧
    { t.agent with posted := s.agent.posted, contexts := s.agent.contexts } = s.agent

/-! ## Management: mode and presses -/

/-- R162: MODE RUN is refused BADSTATE in RUN, BUSY while a census is RUNNING, BADTABLE with item CENSUS where a
required census has not passed, and BADTABLE with the first missing item and its zone or press: for each press and each
zone of its list a ZONE_TC entry, a heater address and a valid curve, in turn, then for each press with a zone list the
PLATEN, EJECT_FORCE and EJECT_POS entries; else the mode becomes RUN, the departures towards
a control period count from 0, and the station leaves OFF where R76 lets it. -/
def Obligations.ModeRun : Prop :=
  ∀ (s : State) (src : Addr) (tag : Byte) (i : Fin 4), s.serves src i true = true →
    let no (code : Byte) (data : List Byte) : Prop :=
      exec (.modeRun src tag) s = .next (s.answered (errFrame s.own src tag 9 code data)).kick
    let bound (role : Role) (n : Nat) : Prop :=
      ∃ k : Fin 64, s.tables.cht[k].role = role ∧ s.tables.cht[k].index = n
    let tc (z : ZoneNo) : Prop × Byte × Byte := (bound .zoneTc z.val, 1, byteOf z.val)
    let heater (z : ZoneNo) : Prop × Byte × Byte := (s.tables.zt[z].heater ≠ 0, 2, byteOf z.val)
    let curve (z : ZoneNo) : Prop × Byte × Byte :=
      ((s.tables.lin[s.tables.zt[z].curve]).Pairwise (fun a b => a.raw < b.raw), 3, byteOf z.val)
    let own (p : PressNo) : List (Prop × Byte × Byte) :=
      [(bound .platen p.val, 4, byteOf p.val), (bound .ejectForce p.val, 5, byteOf p.val),
        (bound .ejectPos p.val, 6, byteOf p.val)]
    let items : List (Prop × Byte × Byte) :=
      ([0, 1, 2, 3] : List PressNo).flatMap (fun p =>
        (s.tables.pt[p].zones).flatMap (fun z => [tc z, heater z, curve z])) ++
      ([0, 1, 2, 3] : List PressNo).flatMap (fun p => if s.tables.pt[p].zones = [] then [] else own p)
    (s.mode = .run → no 4 []) ∧
    (s.mode = .config → s.census.state = .running → no 2 []) ∧
    (s.mode = .config → s.census.state ≠ .running →
      (s.tables.sys.censusRequired = true → s.census.passLatch = false → no 5 [0, 0]) ∧
      (s.tables.sys.censusRequired = false ∨ s.census.passLatch = true →
        (∀ before after held code number, items = before ++ (held, code, number) :: after → ¬held →
          (∀ y ∈ before, y.1) → no 5 [code, number]) ∧
        ((∀ y ∈ items, y.1) →
          exec (.modeRun src tag) s =
            .next (({ s with mode := .run, periodCount := 0 } : State).weighGate.answered
              (okFrame s.own src tag 9 [])).kick)))

/-- R116, R163 and R164: MODE STOP is refused BADSTATE in CONFIG, and without force while a press is in cycle; RESTART
is taken in either mode. Each applies every posted write, records each cycle under way ABORTED in its slot, leaves
every press IDLE without recipe, held OPEN or running timer, its other items but the halt kept, discards the burst and
the released OPENs, and turns the station OFF. MODE STOP orders a halt for a press in EJECTING and leaves the other
halts, the contexts, marks and responses as they are, but that the contexts wait on that many fewer writes (R130).
RESTART besides discards every charge with its record, clears halts, run, hold, contexts, marks, notices, latches and
counters, returns the turn to entry 0 and the census to IDLE, its pass latch kept, and starts the pace timer anew
(R148). That it does so with no recorder configured too, and that the items of a run it ends keep their values, is the
model's reading (logs 25 and 19). -/
def Obligations.ModeStopAndRestart : Prop :=
  ∀ (s : State) (src : Addr) (tag : Byte) (i : Fin 4), s.serves src i true = true → s.Custody →
    (∀ w ∈ s.agent.posted, w.table ≤ 3) →
    let cycling := ((List.finRange 4).filter (fun p : PressNo => s.presses[p].state.inCycle)).length
    let stopped (t : State) : Prop :=
      t.mode = .config ∧ t.agent.posted = [] ∧ t.tables = s.agent.posted.foldl Tables.after s.tables ∧
      t.tables.rt = s.tables.rt ∧ t.tables.pt = s.tables.pt ∧
      t.tables.gt = s.tables.gt ∧ t.tables.sys = s.tables.sys ∧
      (∀ p : PressNo, { t.presses[p] with halt := s.presses[p].halt } = { s.presses[p] with
        state := .idle, recipe := none, slot := none, hold := none, closeT := none, dwellT := none, holdT := none,
        openT := none, ejectT := none,
        cycle := if s.presses[p].state.inCycle = true then none else s.presses[p].cycle }) ∧
      (∀ p : PressNo, ∀ z ∈ s.tables.pt[p].zones, t.zones[z].state = .idle ∧ t.zones[z].integ = 0 ∧
        t.zones[z].lastDuty = 0 ∧ t.zones[z].staleCount = 0 ∧ t.zones[z].preset = 0) ∧
      t.line.burst = [] ∧ t.line.release = s.line.release.filter (fun x => x.kind == .label) ∧
      { t.line with down := s.line.down, burst := s.line.burst, release := s.line.release, hold := s.line.hold } =
        s.line ∧
      t.line.down.map (fun d => { d with awaitedBy := none }) =
        s.line.down.map (fun d => { d with awaitedBy := none }) ∧
      t.weigh.state = .off ∧
      (∀ (p : PressNo) (n : SlotNo), s.presses[p].state.inCycle = true → s.presses[p].slot = some n →
        ∃ x d, t.store.slots[n] = .stored x d ∧ x.kind = .part ∧ x.press = some p ∧ x.disposition = .aborted ∧
          d = freshDelivery s) ∧
      t.store.serial = s.store.serial ∧ t.store.chargeNo = s.store.chargeNo ∧ t.sync = s.sync ∧ t.loss = s.loss
    let stop (force : Byte) : Instr := .modeStop src tag force
    (∀ force : Byte, s.mode = .config ∨ (force.getLsbD 0 = false ∧ cycling ≠ 0) →
      exec (stop force) s = .next (s.answered (errFrame s.own src tag 10 4 [])).kick) ∧
    (∀ force : Byte, s.mode = .run → force.getLsbD 0 = true ∨ cycling = 0 →
      ∃ t, exec (stop force) s = .next (t.answered (okFrame s.own src tag 10 [byteOf cycling])).kick ∧
        stopped t ∧
        t.store.recordNo = s.store.recordNo + BitVec.ofNat 32 cycling ∧
        t.charges = s.charges ∧ t.census = s.census ∧ t.drain0 = s.drain0 ∧ t.pace = s.pace ∧
        t.line.hold = s.line.hold ∧ t.weigh.recipe = s.weigh.recipe ∧
        (∀ p : PressNo,
          (s.presses[p].state = .ejecting → t.presses[p].halt = (s.orderHalt p).presses[p].halt ∧
            t.presses[p].halt ≠ .none) ∧
          (s.presses[p].state ≠ .ejecting → t.presses[p].halt = s.presses[p].halt)) ∧
        (∀ j : Fin 4, t.agent.contexts[j] =
          (s.agent.contexts[j]).map (fun c => { c with wait := c.wait - s.agent.posted.length })) ∧
        { t.agent with posted := s.agent.posted, contexts := s.agent.contexts } = s.agent) ∧
    (∃ t, exec (.restart src tag) s =
        .next (t.answered (okFrame s.own src tag 11 [byteOf cycling, byteOf s.charges.length])).kick ∧
      stopped t ∧
      t.store.recordNo = s.store.recordNo + BitVec.ofNat 32 (cycling + s.charges.length) ∧ t.charges = [] ∧
      (∀ e ∈ s.charges, ∃ x, t.store.slots[e.slot] = .stored x (freshDelivery s) ∧ x.kind = .charge ∧
        x.disposition = .discarded ∧ x.chargeNo = e.number) ∧
      (∀ p : PressNo, t.presses[p].halt = .none) ∧ t.drain0 = { s.drain0 with running := false } ∧
      t.line.hold = .off ∧ t.weigh.recipe = none ∧
      t.pace = some { start := s.now, dur := s.tables.sys.paceUnit * s.tables.sys.paceFactor } ∧
      (∀ j : Fin 4, t.agent.contexts[j] = none ∧ t.agent.marks[j] = none) ∧ t.agent.turn = 0 ∧
      t.agent.responses = s.agent.responses ∧ t.agent.acc = s.agent.acc ∧
      t.notices = { queue := [], mask := s.notices.mask, latches := .clear,
                    counters := Vector.replicate 12 0, half := Vector.replicate 12 false } ∧
      t.census = { Census.reset with passLatch := s.census.passLatch })

/-- R102: PRESS ASSIGN, by the first of its steps that applies: BADARG for a press above 3, BADSTATE in CONFIG or in
cycle; with none a READY press goes to IDLE and its zones to IDLE, an IDLE press stays; BADARG for a number above 7,
an invalid recipe or an empty zone list; BADTABLE with the first missing item and its zone or press, of a ZONE_TC entry
for each zone, then a heater address for each, then a valid curve for each, then the PLATEN, EJECT_FORCE and EJECT_POS
entries of the press; else the press has the recipe and is
READY, and its zones are cleared into REGULATING. -/
def Obligations.PressAssign : Prop :=
  ∀ (s : State) (src : Addr) (tag a b : Byte) (i : Fin 4), s.serves src i true = true →
    let no (code : Byte) (data : List Byte) : Prop :=
      exec (.pressAssign src tag a b) s = .next (s.answered (errFrame s.own src tag 13 code data)).kick
    let bound (role : Role) (n : Nat) : Prop :=
      ∃ k : Fin 64, s.tables.cht[k].role = role ∧ s.tables.cht[k].index = n
    let tc (z : ZoneNo) : Prop × Byte × Byte := (bound .zoneTc z.val, 1, byteOf z.val)
    let heater (z : ZoneNo) : Prop × Byte × Byte := (s.tables.zt[z].heater ≠ 0, 2, byteOf z.val)
    let curve (z : ZoneNo) : Prop × Byte × Byte :=
      ((s.tables.lin[s.tables.zt[z].curve]).Pairwise (fun a b => a.raw < b.raw), 3, byteOf z.val)
    let own (p : PressNo) : List (Prop × Byte × Byte) :=
      [(bound .platen p.val, 4, byteOf p.val), (bound .ejectForce p.val, 5, byteOf p.val),
        (bound .ejectPos p.val, 6, byteOf p.val)]
    let items (p : PressNo) : List (Prop × Byte × Byte) :=
      (s.tables.pt[p].zones).map tc ++ (s.tables.pt[p].zones).map heater ++ (s.tables.pt[p].zones).map curve ++ own p
    let done (p : PressNo) (t : State) (q : Press) (x : ZoneState) : Prop :=
      exec (.pressAssign src tag a b) s = .next (t.answered (okFrame s.own src tag 13 [])).kick ∧
      Only { presses := true, zones := true, notices := true } s t ∧ t.presses = s.presses.set p q ∧
      t.notices = (if s.presses[p].state = q.state then s
        else s.raise .pressState p.val q.state.code).notices ∧
      (∀ z ∈ s.tables.pt[p].zones, t.zones[z] =
        { s.zones[z] with state := x, integ := 0, lastDuty := 0, staleCount := 0, preset := 0 }) ∧
      (∀ z : ZoneNo, z ∉ s.tables.pt[p].zones → t.zones[z] = s.zones[z])
    (4 ≤ a.toNat → no 3 []) ∧
    (∀ p : PressNo, a.toNat = p.val →
      (s.mode = .config ∨ s.presses[p].state.inCycle = true → no 4 []) ∧
      (s.mode = .run → b = 255 → s.presses[p].state = .idle →
        exec (.pressAssign src tag a b) s = .next (s.answered (okFrame s.own src tag 13 [])).kick) ∧
      (s.mode = .run → b = 255 → s.presses[p].state = .ready →
        ∃ t, done p t { s.presses[p] with
          state := .idle, recipe := none, hold := none, closeT := none, dwellT := none, holdT := none,
          openT := none, ejectT := none } .idle) ∧
      (s.mode = .run → s.presses[p].state.inCycle = false → b ≠ 255 → 8 ≤ b.toNat → no 3 []) ∧
      (∀ r : RecipeNo, s.mode = .run → s.presses[p].state.inCycle = false → b.toNat = r.val →
        (s.tables.rt[r].valid = false ∨ s.tables.pt[p].zones = [] → no 3 []) ∧
        (s.tables.rt[r].valid = true → s.tables.pt[p].zones ≠ [] →
          (∀ before after held code number, items p = before ++ (held, code, number) :: after → ¬held →
            (∀ y ∈ before, y.1) → no 5 [code, number]) ∧
          ((∀ y ∈ items p, y.1) →
            ∃ t, done p t { s.presses[p] with state := .ready, recipe := some r } .regulating))))

/-- R113, R115 and R130: PRESS ABORT and PRESS SCRAP are refused BADARG for a press above 3 and BADSTATE out of
cycle; else the cycle is finalised ABORTED or SCRAP, the press enters READY, and the answer carries the record's
number; a press in EJECTING has a halt ordered first. -/
def Obligations.PressAbortAndScrap : Prop :=
  ∀ (s : State) (src : Addr) (tag a : Byte) (i : Fin 4), s.serves src i true = true →
    let out (c : Instr) (op : Byte) (d : Disposition) : Prop :=
      (4 ≤ a.toNat → exec c s = .next (s.answered (errFrame s.own src tag op 3 [])).kick) ∧
      (∀ p : PressNo, a.toNat = p.val →
        (s.presses[p].state.inCycle = false →
          exec c s = .next (s.answered (errFrame s.own src tag op 4 [])).kick) ∧
        (∀ n y r, s.presses[p].state.inCycle = true → s.carries p n y r = true →
          ∃ t, exec c s =
              .next (t.answered (okFrame s.own src tag op (toBytes 4 s.store.recordNo.toNat))).kick ∧
            Only { presses := true, store := true, line := true, notices := true } s t ∧
            Finalised s t p n y r d .ready ∧
            (s.presses[p].state = .ejecting → t.presses[p].halt = (s.orderHalt p).presses[p].halt ∧
              t.presses[p].halt ≠ .none ∧ t.line = (s.orderHalt p).line) ∧
            (s.presses[p].state ≠ .ejecting → t.presses[p].halt = s.presses[p].halt ∧ t.line = s.line) ∧
            t.notices = ((s.raise .recordStored p.val d.code).raise .pressState p.val 1).notices))
    out (.pressAbort src tag a) 14 .aborted ∧ out (.pressScrap src tag a) 15 .scrap

/-- R150 and R151, as rows and as frames on U-in: a request that meets a full response queue is dropped and counted;
one from an address no entry of the requester table holds, or a writing operation from a requester of level READ, is
answered DENIED; a table write whose content has not the size of its entry is answered BADARG. An MREQ that is no row:
one with less than a tag and an operation code is dropped and counted; one with an unknown operation, or with argument
bytes not of the length of Table 107, is answered BADARG, in the order of R150's steps. -/
def Obligations.RequestRefusals : Prop :=
  (∀ (c : Instr) (s : State) (src : Addr) (tag code : Byte) (args : List Byte),
    requestOf c = some (src, tag, code, args) → s.rstn = true →
    (4 ≤ s.agent.responses.length → exec c s = .next (s.count 8).kick) ∧
    (s.agent.responses.length < 4 →
      ((∀ (i : Fin 4) e, s.agent.acc[i] = some e → e.addr ≠ src) →
        exec c s = .next (s.answered (errFrame s.own src tag code 7 [])).kick) ∧
      (∀ i : Fin 4, s.requester src = some i → s.levelOf i = .read →
        code.toNat ∈ [4, 7, 8, 9, 10, 11, 12, 13, 14, 15, 16, 17, 18, 21, 23] →
        exec c s = .next (s.answered (errFrame s.own src tag code 7 [])).kick)) ∧
    (∀ i : Fin 4, s.serves src i true = true → ∀ x a content, (code = 7 ∨ code = 8) → args = x :: a :: content →
      writeSize x.toNat ≠ some content.length →
      exec c s = .next (s.answered (errFrame s.own src tag code 3 [])).kick)) ∧
  (∀ (s : State) (f : Frame),
    (4 ≤ s.agent.responses.length → s.takeMreq f = s.count 8) ∧
    (s.agent.responses.length < 4 →
      (f.payload.length < 2 → s.takeMreq f = s.count 8) ∧
      (∀ tag code args, f.payload = tag :: code :: args →
        let no (result : Byte) : Prop := s.takeMreq f = s.answered (errFrame s.own f.srcAddr tag code result [])
        let writes := code.toNat ∈ [4, 7, 8, 9, 10, 11, 12, 13, 14, 15, 16, 17, 18, 21, 23]
        let fits := (code.toNat, args.length) ∈ [(1, 0), (2, 0), (3, 0), (4, 3), (5, 3), (6, 2), (9, 0), (10, 1),
            (11, 0), (12, 0), (13, 2), (14, 1), (15, 1), (16, 1), (17, 0), (18, 2), (19, 2), (20, 0), (21, 4),
            (22, 4), (23, 4)] ∨
          ((code = 7 ∨ code = 8) ∧ ∃ x a content, args = x :: a :: content ∧ writeSize x.toNat = some content.length)
        ((∀ (i : Fin 4) e, s.agent.acc[i] = some e → e.addr ≠ f.srcAddr) → no 7) ∧
        (∀ i : Fin 4, s.requester f.srcAddr = some i →
          (code = 0 ∨ 23 < code.toNat → no 3) ∧
          (writes → s.levelOf i = .read → no 7) ∧
          (1 ≤ code.toNat → code.toNat ≤ 23 → ¬writes ∨ s.levelOf i = .write → ¬fits → no 3)))))

/-! ## Invariants -/

/-- Right after power-on every invariant below holds. -/
def Obligations.InvariantsHoldAtReset : Prop :=
  State.reset.Bounded ∧ State.reset.Served ∧ State.reset.Custody ∧ State.reset.Quiet ∧ State.reset.ZonesFit ∧
    State.reset.KeysUnique

/-- R8, R18, R84, R118, R153, R158, R167 and R172: every step keeps the bounds of the buffers, the queues, the
counters, the outcome window and the run counts. -/
def Obligations.BoundsAreKept : Prop :=
  ∀ s t : State, s.Bounded → step s = .next t → t.Bounded

/-- R84, R101, R134 and R135: every step keeps the custody of the reserved slots. -/
def Obligations.CustodyIsKept : Prop :=
  ∀ s t : State, s.Custody → step s = .next t → t.Custody

/-- R58, R68, R95, R113 and R158: every step keeps each zone's state fitting its press's, no zone in two lists, the
preset entry of an unregulated zone at 0, only writes to posted tables waiting, and in CONFIG every press IDLE
with no write waiting. -/
def Obligations.ZonesFollowTheirPresses : Prop :=
  ∀ s t : State, s.Quiet → s.ZonesFit → step s = .next t → t.Quiet ∧ t.ZonesFit

/-- R27: every step keeps the active entries of the channel table, as it stands and as the posted writes will make
it, free of a shared key or role target. -/
def Obligations.ChannelKeysStayUnique : Prop :=
  ∀ s t : State, s.Quiet → s.KeysUnique → step s = .next t → t.KeysUnique

/-- R134, R138 and R139: a stored record that is not released stays in its slot, unchanged, whatever command is
taken, but for power-on and RELEASE, as a row or as the request that a symbol on U-in completes; its delivery marks
are never taken back. -/
def Obligations.UnreleasedRecordsStay : Prop :=
  ∀ (c : Instr) (s t : State) (i : SlotNo) (r : Record) (d : Delivery), s.Custody → exec c s = .next t →
    (∀ b, c ≠ .powerOn b) → (∀ src tag n, c ≠ .release src tag n) →
    (∀ before y after, c = .uInFrame (before ++ y :: after) →
      ∀ args, ¬(before.foldl State.uSymbol s).completesRequest y 21 args) →
    s.store.slots[i] = .stored r d → d.released = false →
    ∃ d', t.store.slots[i] = .stored r d' ∧ d'.released = false ∧
      (d.delivered0 = true → d'.delivered0 = true) ∧ (d.delivered1 = true → d'.delivered1 = true)

end
end

