-- ==== Sys2Proof/Laws/State.lean ====
section
/-!
SUPPORT. One lemma per field per update of State, each true by definition, so that no later proof unfolds a
record update; and what the updates of one press, zone, target or slot do to it and to the others.
-/

namespace Sys2Proof.Machine

open Sys2Proof

variable (s : State)

/-! ## State.updPress -/

@[simp] theorem State.updPress_now (p : PressNo) (f : Press → Press) : (s.updPress p f).now = s.now := rfl
@[simp] theorem State.updPress_rstn (p : PressNo) (f : Press → Press) : (s.updPress p f).rstn = s.rstn := rfl
@[simp] theorem State.updPress_own (p : PressNo) (f : Press → Press) : (s.updPress p f).own = s.own := rfl
@[simp] theorem State.updPress_gdLevels (p : PressNo) (f : Press → Press) : (s.updPress p f).gdLevels = s.gdLevels := rfl
@[simp] theorem State.updPress_mode (p : PressNo) (f : Press → Press) : (s.updPress p f).mode = s.mode := rfl
@[simp] theorem State.updPress_line (p : PressNo) (f : Press → Press) : (s.updPress p f).line = s.line := rfl
@[simp] theorem State.updPress_sync (p : PressNo) (f : Press → Press) : (s.updPress p f).sync = s.sync := rfl
@[simp] theorem State.updPress_loss (p : PressNo) (f : Press → Press) : (s.updPress p f).loss = s.loss := rfl
@[simp] theorem State.updPress_census (p : PressNo) (f : Press → Press) : (s.updPress p f).census = s.census := rfl
@[simp] theorem State.updPress_tables (p : PressNo) (f : Press → Press) : (s.updPress p f).tables = s.tables := rfl
@[simp] theorem State.updPress_targets (p : PressNo) (f : Press → Press) : (s.updPress p f).targets = s.targets := rfl
@[simp] theorem State.updPress_zones (p : PressNo) (f : Press → Press) : (s.updPress p f).zones = s.zones := rfl
@[simp] theorem State.updPress_periodCount (p : PressNo) (f : Press → Press) : (s.updPress p f).periodCount = s.periodCount := rfl
@[simp] theorem State.updPress_periodDue (p : PressNo) (f : Press → Press) : (s.updPress p f).periodDue = s.periodDue := rfl
@[simp] theorem State.updPress_guard (p : PressNo) (f : Press → Press) : (s.updPress p f).guard = s.guard := rfl
@[simp] theorem State.updPress_weigh (p : PressNo) (f : Press → Press) : (s.updPress p f).weigh = s.weigh := rfl
@[simp] theorem State.updPress_charges (p : PressNo) (f : Press → Press) : (s.updPress p f).charges = s.charges := rfl
@[simp] theorem State.updPress_store (p : PressNo) (f : Press → Press) : (s.updPress p f).store = s.store := rfl
@[simp] theorem State.updPress_drain0 (p : PressNo) (f : Press → Press) : (s.updPress p f).drain0 = s.drain0 := rfl
@[simp] theorem State.updPress_pace (p : PressNo) (f : Press → Press) : (s.updPress p f).pace = s.pace := rfl
@[simp] theorem State.updPress_agent (p : PressNo) (f : Press → Press) : (s.updPress p f).agent = s.agent := rfl
@[simp] theorem State.updPress_notices (p : PressNo) (f : Press → Press) : (s.updPress p f).notices = s.notices := rfl
@[simp] theorem State.updPress_freeCount (p : PressNo) (f : Press → Press) : (s.updPress p f).freeCount = s.freeCount := rfl
@[simp] theorem State.updPress_pending (p : PressNo) (f : Press → Press) : (s.updPress p f).pending = s.pending := rfl

/-! ## State.updZone -/

@[simp] theorem State.updZone_now (z : ZoneNo) (f : ZoneRecord → ZoneRecord) : (s.updZone z f).now = s.now := rfl
@[simp] theorem State.updZone_rstn (z : ZoneNo) (f : ZoneRecord → ZoneRecord) : (s.updZone z f).rstn = s.rstn := rfl
@[simp] theorem State.updZone_own (z : ZoneNo) (f : ZoneRecord → ZoneRecord) : (s.updZone z f).own = s.own := rfl
@[simp] theorem State.updZone_gdLevels (z : ZoneNo) (f : ZoneRecord → ZoneRecord) : (s.updZone z f).gdLevels = s.gdLevels := rfl
@[simp] theorem State.updZone_mode (z : ZoneNo) (f : ZoneRecord → ZoneRecord) : (s.updZone z f).mode = s.mode := rfl
@[simp] theorem State.updZone_line (z : ZoneNo) (f : ZoneRecord → ZoneRecord) : (s.updZone z f).line = s.line := rfl
@[simp] theorem State.updZone_sync (z : ZoneNo) (f : ZoneRecord → ZoneRecord) : (s.updZone z f).sync = s.sync := rfl
@[simp] theorem State.updZone_loss (z : ZoneNo) (f : ZoneRecord → ZoneRecord) : (s.updZone z f).loss = s.loss := rfl
@[simp] theorem State.updZone_census (z : ZoneNo) (f : ZoneRecord → ZoneRecord) : (s.updZone z f).census = s.census := rfl
@[simp] theorem State.updZone_tables (z : ZoneNo) (f : ZoneRecord → ZoneRecord) : (s.updZone z f).tables = s.tables := rfl
@[simp] theorem State.updZone_targets (z : ZoneNo) (f : ZoneRecord → ZoneRecord) : (s.updZone z f).targets = s.targets := rfl
@[simp] theorem State.updZone_periodCount (z : ZoneNo) (f : ZoneRecord → ZoneRecord) : (s.updZone z f).periodCount = s.periodCount := rfl
@[simp] theorem State.updZone_periodDue (z : ZoneNo) (f : ZoneRecord → ZoneRecord) : (s.updZone z f).periodDue = s.periodDue := rfl
@[simp] theorem State.updZone_guard (z : ZoneNo) (f : ZoneRecord → ZoneRecord) : (s.updZone z f).guard = s.guard := rfl
@[simp] theorem State.updZone_weigh (z : ZoneNo) (f : ZoneRecord → ZoneRecord) : (s.updZone z f).weigh = s.weigh := rfl
@[simp] theorem State.updZone_charges (z : ZoneNo) (f : ZoneRecord → ZoneRecord) : (s.updZone z f).charges = s.charges := rfl
@[simp] theorem State.updZone_presses (z : ZoneNo) (f : ZoneRecord → ZoneRecord) : (s.updZone z f).presses = s.presses := rfl
@[simp] theorem State.updZone_store (z : ZoneNo) (f : ZoneRecord → ZoneRecord) : (s.updZone z f).store = s.store := rfl
@[simp] theorem State.updZone_drain0 (z : ZoneNo) (f : ZoneRecord → ZoneRecord) : (s.updZone z f).drain0 = s.drain0 := rfl
@[simp] theorem State.updZone_pace (z : ZoneNo) (f : ZoneRecord → ZoneRecord) : (s.updZone z f).pace = s.pace := rfl
@[simp] theorem State.updZone_agent (z : ZoneNo) (f : ZoneRecord → ZoneRecord) : (s.updZone z f).agent = s.agent := rfl
@[simp] theorem State.updZone_notices (z : ZoneNo) (f : ZoneRecord → ZoneRecord) : (s.updZone z f).notices = s.notices := rfl
@[simp] theorem State.updZone_freeCount (z : ZoneNo) (f : ZoneRecord → ZoneRecord) : (s.updZone z f).freeCount = s.freeCount := rfl
@[simp] theorem State.updZone_pending (z : ZoneNo) (f : ZoneRecord → ZoneRecord) : (s.updZone z f).pending = s.pending := rfl

/-! ## State.setTarget -/

@[simp] theorem State.setTarget_now (t : TargetNo) (x : Target) : (s.setTarget t x).now = s.now := rfl
@[simp] theorem State.setTarget_rstn (t : TargetNo) (x : Target) : (s.setTarget t x).rstn = s.rstn := rfl
@[simp] theorem State.setTarget_own (t : TargetNo) (x : Target) : (s.setTarget t x).own = s.own := rfl
@[simp] theorem State.setTarget_gdLevels (t : TargetNo) (x : Target) : (s.setTarget t x).gdLevels = s.gdLevels := rfl
@[simp] theorem State.setTarget_mode (t : TargetNo) (x : Target) : (s.setTarget t x).mode = s.mode := rfl
@[simp] theorem State.setTarget_line (t : TargetNo) (x : Target) : (s.setTarget t x).line = s.line := rfl
@[simp] theorem State.setTarget_sync (t : TargetNo) (x : Target) : (s.setTarget t x).sync = s.sync := rfl
@[simp] theorem State.setTarget_loss (t : TargetNo) (x : Target) : (s.setTarget t x).loss = s.loss := rfl
@[simp] theorem State.setTarget_census (t : TargetNo) (x : Target) : (s.setTarget t x).census = s.census := rfl
@[simp] theorem State.setTarget_tables (t : TargetNo) (x : Target) : (s.setTarget t x).tables = s.tables := rfl
@[simp] theorem State.setTarget_zones (t : TargetNo) (x : Target) : (s.setTarget t x).zones = s.zones := rfl
@[simp] theorem State.setTarget_periodCount (t : TargetNo) (x : Target) : (s.setTarget t x).periodCount = s.periodCount := rfl
@[simp] theorem State.setTarget_periodDue (t : TargetNo) (x : Target) : (s.setTarget t x).periodDue = s.periodDue := rfl
@[simp] theorem State.setTarget_guard (t : TargetNo) (x : Target) : (s.setTarget t x).guard = s.guard := rfl
@[simp] theorem State.setTarget_weigh (t : TargetNo) (x : Target) : (s.setTarget t x).weigh = s.weigh := rfl
@[simp] theorem State.setTarget_charges (t : TargetNo) (x : Target) : (s.setTarget t x).charges = s.charges := rfl
@[simp] theorem State.setTarget_presses (t : TargetNo) (x : Target) : (s.setTarget t x).presses = s.presses := rfl
@[simp] theorem State.setTarget_store (t : TargetNo) (x : Target) : (s.setTarget t x).store = s.store := rfl
@[simp] theorem State.setTarget_drain0 (t : TargetNo) (x : Target) : (s.setTarget t x).drain0 = s.drain0 := rfl
@[simp] theorem State.setTarget_pace (t : TargetNo) (x : Target) : (s.setTarget t x).pace = s.pace := rfl
@[simp] theorem State.setTarget_agent (t : TargetNo) (x : Target) : (s.setTarget t x).agent = s.agent := rfl
@[simp] theorem State.setTarget_notices (t : TargetNo) (x : Target) : (s.setTarget t x).notices = s.notices := rfl
@[simp] theorem State.setTarget_freeCount (t : TargetNo) (x : Target) : (s.setTarget t x).freeCount = s.freeCount := rfl
@[simp] theorem State.setTarget_pending (t : TargetNo) (x : Target) : (s.setTarget t x).pending = s.pending := rfl

/-! ## State.updNotices -/

@[simp] theorem State.updNotices_now (f : NoticeUnit → NoticeUnit) : (s.updNotices f).now = s.now := rfl
@[simp] theorem State.updNotices_rstn (f : NoticeUnit → NoticeUnit) : (s.updNotices f).rstn = s.rstn := rfl
@[simp] theorem State.updNotices_own (f : NoticeUnit → NoticeUnit) : (s.updNotices f).own = s.own := rfl
@[simp] theorem State.updNotices_gdLevels (f : NoticeUnit → NoticeUnit) : (s.updNotices f).gdLevels = s.gdLevels := rfl
@[simp] theorem State.updNotices_mode (f : NoticeUnit → NoticeUnit) : (s.updNotices f).mode = s.mode := rfl
@[simp] theorem State.updNotices_line (f : NoticeUnit → NoticeUnit) : (s.updNotices f).line = s.line := rfl
@[simp] theorem State.updNotices_sync (f : NoticeUnit → NoticeUnit) : (s.updNotices f).sync = s.sync := rfl
@[simp] theorem State.updNotices_loss (f : NoticeUnit → NoticeUnit) : (s.updNotices f).loss = s.loss := rfl
@[simp] theorem State.updNotices_census (f : NoticeUnit → NoticeUnit) : (s.updNotices f).census = s.census := rfl
@[simp] theorem State.updNotices_tables (f : NoticeUnit → NoticeUnit) : (s.updNotices f).tables = s.tables := rfl
@[simp] theorem State.updNotices_targets (f : NoticeUnit → NoticeUnit) : (s.updNotices f).targets = s.targets := rfl
@[simp] theorem State.updNotices_zones (f : NoticeUnit → NoticeUnit) : (s.updNotices f).zones = s.zones := rfl
@[simp] theorem State.updNotices_periodCount (f : NoticeUnit → NoticeUnit) : (s.updNotices f).periodCount = s.periodCount := rfl
@[simp] theorem State.updNotices_periodDue (f : NoticeUnit → NoticeUnit) : (s.updNotices f).periodDue = s.periodDue := rfl
@[simp] theorem State.updNotices_guard (f : NoticeUnit → NoticeUnit) : (s.updNotices f).guard = s.guard := rfl
@[simp] theorem State.updNotices_weigh (f : NoticeUnit → NoticeUnit) : (s.updNotices f).weigh = s.weigh := rfl
@[simp] theorem State.updNotices_charges (f : NoticeUnit → NoticeUnit) : (s.updNotices f).charges = s.charges := rfl
@[simp] theorem State.updNotices_presses (f : NoticeUnit → NoticeUnit) : (s.updNotices f).presses = s.presses := rfl
@[simp] theorem State.updNotices_store (f : NoticeUnit → NoticeUnit) : (s.updNotices f).store = s.store := rfl
@[simp] theorem State.updNotices_drain0 (f : NoticeUnit → NoticeUnit) : (s.updNotices f).drain0 = s.drain0 := rfl
@[simp] theorem State.updNotices_pace (f : NoticeUnit → NoticeUnit) : (s.updNotices f).pace = s.pace := rfl
@[simp] theorem State.updNotices_agent (f : NoticeUnit → NoticeUnit) : (s.updNotices f).agent = s.agent := rfl
@[simp] theorem State.updNotices_freeCount (f : NoticeUnit → NoticeUnit) : (s.updNotices f).freeCount = s.freeCount := rfl
@[simp] theorem State.updNotices_pending (f : NoticeUnit → NoticeUnit) : (s.updNotices f).pending = s.pending := rfl

/-! ## State.setSlot -/

@[simp] theorem State.setSlot_now (n : SlotNo) (x : Slot) : (s.setSlot n x).now = s.now := rfl
@[simp] theorem State.setSlot_rstn (n : SlotNo) (x : Slot) : (s.setSlot n x).rstn = s.rstn := rfl
@[simp] theorem State.setSlot_own (n : SlotNo) (x : Slot) : (s.setSlot n x).own = s.own := rfl
@[simp] theorem State.setSlot_gdLevels (n : SlotNo) (x : Slot) : (s.setSlot n x).gdLevels = s.gdLevels := rfl
@[simp] theorem State.setSlot_mode (n : SlotNo) (x : Slot) : (s.setSlot n x).mode = s.mode := rfl
@[simp] theorem State.setSlot_line (n : SlotNo) (x : Slot) : (s.setSlot n x).line = s.line := rfl
@[simp] theorem State.setSlot_sync (n : SlotNo) (x : Slot) : (s.setSlot n x).sync = s.sync := rfl
@[simp] theorem State.setSlot_loss (n : SlotNo) (x : Slot) : (s.setSlot n x).loss = s.loss := rfl
@[simp] theorem State.setSlot_census (n : SlotNo) (x : Slot) : (s.setSlot n x).census = s.census := rfl
@[simp] theorem State.setSlot_tables (n : SlotNo) (x : Slot) : (s.setSlot n x).tables = s.tables := rfl
@[simp] theorem State.setSlot_targets (n : SlotNo) (x : Slot) : (s.setSlot n x).targets = s.targets := rfl
@[simp] theorem State.setSlot_zones (n : SlotNo) (x : Slot) : (s.setSlot n x).zones = s.zones := rfl
@[simp] theorem State.setSlot_periodCount (n : SlotNo) (x : Slot) : (s.setSlot n x).periodCount = s.periodCount := rfl
@[simp] theorem State.setSlot_periodDue (n : SlotNo) (x : Slot) : (s.setSlot n x).periodDue = s.periodDue := rfl
@[simp] theorem State.setSlot_guard (n : SlotNo) (x : Slot) : (s.setSlot n x).guard = s.guard := rfl
@[simp] theorem State.setSlot_weigh (n : SlotNo) (x : Slot) : (s.setSlot n x).weigh = s.weigh := rfl
@[simp] theorem State.setSlot_charges (n : SlotNo) (x : Slot) : (s.setSlot n x).charges = s.charges := rfl
@[simp] theorem State.setSlot_presses (n : SlotNo) (x : Slot) : (s.setSlot n x).presses = s.presses := rfl
@[simp] theorem State.setSlot_drain0 (n : SlotNo) (x : Slot) : (s.setSlot n x).drain0 = s.drain0 := rfl
@[simp] theorem State.setSlot_pace (n : SlotNo) (x : Slot) : (s.setSlot n x).pace = s.pace := rfl
@[simp] theorem State.setSlot_agent (n : SlotNo) (x : Slot) : (s.setSlot n x).agent = s.agent := rfl
@[simp] theorem State.setSlot_notices (n : SlotNo) (x : Slot) : (s.setSlot n x).notices = s.notices := rfl
@[simp] theorem State.setSlot_freeCount (n : SlotNo) (x : Slot) : (s.setSlot n x).freeCount = s.freeCount := rfl
@[simp] theorem State.setSlot_pending (n : SlotNo) (x : Slot) : (s.setSlot n x).pending = s.pending := rfl

/-! ## State.raise -/

@[simp] theorem State.raise_now (k : NoticeKind) (a b : Nat) : (s.raise k a b).now = s.now := rfl
@[simp] theorem State.raise_rstn (k : NoticeKind) (a b : Nat) : (s.raise k a b).rstn = s.rstn := rfl
@[simp] theorem State.raise_own (k : NoticeKind) (a b : Nat) : (s.raise k a b).own = s.own := rfl
@[simp] theorem State.raise_gdLevels (k : NoticeKind) (a b : Nat) : (s.raise k a b).gdLevels = s.gdLevels := rfl
@[simp] theorem State.raise_mode (k : NoticeKind) (a b : Nat) : (s.raise k a b).mode = s.mode := rfl
@[simp] theorem State.raise_line (k : NoticeKind) (a b : Nat) : (s.raise k a b).line = s.line := rfl
@[simp] theorem State.raise_sync (k : NoticeKind) (a b : Nat) : (s.raise k a b).sync = s.sync := rfl
@[simp] theorem State.raise_loss (k : NoticeKind) (a b : Nat) : (s.raise k a b).loss = s.loss := rfl
@[simp] theorem State.raise_census (k : NoticeKind) (a b : Nat) : (s.raise k a b).census = s.census := rfl
@[simp] theorem State.raise_tables (k : NoticeKind) (a b : Nat) : (s.raise k a b).tables = s.tables := rfl
@[simp] theorem State.raise_targets (k : NoticeKind) (a b : Nat) : (s.raise k a b).targets = s.targets := rfl
@[simp] theorem State.raise_zones (k : NoticeKind) (a b : Nat) : (s.raise k a b).zones = s.zones := rfl
@[simp] theorem State.raise_periodCount (k : NoticeKind) (a b : Nat) : (s.raise k a b).periodCount = s.periodCount := rfl
@[simp] theorem State.raise_periodDue (k : NoticeKind) (a b : Nat) : (s.raise k a b).periodDue = s.periodDue := rfl
@[simp] theorem State.raise_guard (k : NoticeKind) (a b : Nat) : (s.raise k a b).guard = s.guard := rfl
@[simp] theorem State.raise_weigh (k : NoticeKind) (a b : Nat) : (s.raise k a b).weigh = s.weigh := rfl
@[simp] theorem State.raise_charges (k : NoticeKind) (a b : Nat) : (s.raise k a b).charges = s.charges := rfl
@[simp] theorem State.raise_presses (k : NoticeKind) (a b : Nat) : (s.raise k a b).presses = s.presses := rfl
@[simp] theorem State.raise_store (k : NoticeKind) (a b : Nat) : (s.raise k a b).store = s.store := rfl
@[simp] theorem State.raise_drain0 (k : NoticeKind) (a b : Nat) : (s.raise k a b).drain0 = s.drain0 := rfl
@[simp] theorem State.raise_pace (k : NoticeKind) (a b : Nat) : (s.raise k a b).pace = s.pace := rfl
@[simp] theorem State.raise_agent (k : NoticeKind) (a b : Nat) : (s.raise k a b).agent = s.agent := rfl
@[simp] theorem State.raise_freeCount (k : NoticeKind) (a b : Nat) : (s.raise k a b).freeCount = s.freeCount := rfl
@[simp] theorem State.raise_pending (k : NoticeKind) (a b : Nat) : (s.raise k a b).pending = s.pending := rfl

/-! ## State.pushDown -/

@[simp] theorem State.pushDown_now (f : Frame) : (s.pushDown f).now = s.now := rfl
@[simp] theorem State.pushDown_rstn (f : Frame) : (s.pushDown f).rstn = s.rstn := rfl
@[simp] theorem State.pushDown_own (f : Frame) : (s.pushDown f).own = s.own := rfl
@[simp] theorem State.pushDown_gdLevels (f : Frame) : (s.pushDown f).gdLevels = s.gdLevels := rfl
@[simp] theorem State.pushDown_mode (f : Frame) : (s.pushDown f).mode = s.mode := rfl
@[simp] theorem State.pushDown_sync (f : Frame) : (s.pushDown f).sync = s.sync := rfl
@[simp] theorem State.pushDown_loss (f : Frame) : (s.pushDown f).loss = s.loss := rfl
@[simp] theorem State.pushDown_census (f : Frame) : (s.pushDown f).census = s.census := rfl
@[simp] theorem State.pushDown_tables (f : Frame) : (s.pushDown f).tables = s.tables := rfl
@[simp] theorem State.pushDown_targets (f : Frame) : (s.pushDown f).targets = s.targets := rfl
@[simp] theorem State.pushDown_zones (f : Frame) : (s.pushDown f).zones = s.zones := rfl
@[simp] theorem State.pushDown_periodCount (f : Frame) : (s.pushDown f).periodCount = s.periodCount := rfl
@[simp] theorem State.pushDown_periodDue (f : Frame) : (s.pushDown f).periodDue = s.periodDue := rfl
@[simp] theorem State.pushDown_guard (f : Frame) : (s.pushDown f).guard = s.guard := rfl
@[simp] theorem State.pushDown_weigh (f : Frame) : (s.pushDown f).weigh = s.weigh := rfl
@[simp] theorem State.pushDown_charges (f : Frame) : (s.pushDown f).charges = s.charges := rfl
@[simp] theorem State.pushDown_presses (f : Frame) : (s.pushDown f).presses = s.presses := rfl
@[simp] theorem State.pushDown_store (f : Frame) : (s.pushDown f).store = s.store := rfl
@[simp] theorem State.pushDown_drain0 (f : Frame) : (s.pushDown f).drain0 = s.drain0 := rfl
@[simp] theorem State.pushDown_pace (f : Frame) : (s.pushDown f).pace = s.pace := rfl
@[simp] theorem State.pushDown_agent (f : Frame) : (s.pushDown f).agent = s.agent := rfl
@[simp] theorem State.pushDown_notices (f : Frame) : (s.pushDown f).notices = s.notices := rfl
@[simp] theorem State.pushDown_freeCount (f : Frame) : (s.pushDown f).freeCount = s.freeCount := rfl
@[simp] theorem State.pushDown_pending (f : Frame) : (s.pushDown f).pending = s.pending := rfl

/-! ## State.missSyncs -/

@[simp] theorem State.missSyncs_now : s.missSyncs.now = s.now := rfl
@[simp] theorem State.missSyncs_rstn : s.missSyncs.rstn = s.rstn := rfl
@[simp] theorem State.missSyncs_own : s.missSyncs.own = s.own := rfl
@[simp] theorem State.missSyncs_gdLevels : s.missSyncs.gdLevels = s.gdLevels := rfl
@[simp] theorem State.missSyncs_mode : s.missSyncs.mode = s.mode := rfl
@[simp] theorem State.missSyncs_sync : s.missSyncs.sync = s.sync := rfl
@[simp] theorem State.missSyncs_loss : s.missSyncs.loss = s.loss := rfl
@[simp] theorem State.missSyncs_census : s.missSyncs.census = s.census := rfl
@[simp] theorem State.missSyncs_tables : s.missSyncs.tables = s.tables := rfl
@[simp] theorem State.missSyncs_targets : s.missSyncs.targets = s.targets := rfl
@[simp] theorem State.missSyncs_zones : s.missSyncs.zones = s.zones := rfl
@[simp] theorem State.missSyncs_periodCount : s.missSyncs.periodCount = s.periodCount := rfl
@[simp] theorem State.missSyncs_periodDue : s.missSyncs.periodDue = s.periodDue := rfl
@[simp] theorem State.missSyncs_guard : s.missSyncs.guard = s.guard := rfl
@[simp] theorem State.missSyncs_weigh : s.missSyncs.weigh = s.weigh := rfl
@[simp] theorem State.missSyncs_charges : s.missSyncs.charges = s.charges := rfl
@[simp] theorem State.missSyncs_presses : s.missSyncs.presses = s.presses := rfl
@[simp] theorem State.missSyncs_store : s.missSyncs.store = s.store := rfl
@[simp] theorem State.missSyncs_drain0 : s.missSyncs.drain0 = s.drain0 := rfl
@[simp] theorem State.missSyncs_pace : s.missSyncs.pace = s.pace := rfl
@[simp] theorem State.missSyncs_agent : s.missSyncs.agent = s.agent := rfl
@[simp] theorem State.missSyncs_notices : s.missSyncs.notices = s.notices := rfl
@[simp] theorem State.missSyncs_freeCount : s.missSyncs.freeCount = s.freeCount := rfl
@[simp] theorem State.missSyncs_pending : s.missSyncs.pending = s.pending := rfl

/-! ## State.pushRelease -/

@[simp] theorem State.pushRelease_now (p : PressNo) (k : ReleaseKind) (f : Frame) : (s.pushRelease p k f).now = s.now := rfl
@[simp] theorem State.pushRelease_rstn (p : PressNo) (k : ReleaseKind) (f : Frame) : (s.pushRelease p k f).rstn = s.rstn := rfl
@[simp] theorem State.pushRelease_own (p : PressNo) (k : ReleaseKind) (f : Frame) : (s.pushRelease p k f).own = s.own := rfl
@[simp] theorem State.pushRelease_gdLevels (p : PressNo) (k : ReleaseKind) (f : Frame) : (s.pushRelease p k f).gdLevels = s.gdLevels := rfl
@[simp] theorem State.pushRelease_mode (p : PressNo) (k : ReleaseKind) (f : Frame) : (s.pushRelease p k f).mode = s.mode := rfl
@[simp] theorem State.pushRelease_sync (p : PressNo) (k : ReleaseKind) (f : Frame) : (s.pushRelease p k f).sync = s.sync := rfl
@[simp] theorem State.pushRelease_loss (p : PressNo) (k : ReleaseKind) (f : Frame) : (s.pushRelease p k f).loss = s.loss := rfl
@[simp] theorem State.pushRelease_census (p : PressNo) (k : ReleaseKind) (f : Frame) : (s.pushRelease p k f).census = s.census := rfl
@[simp] theorem State.pushRelease_tables (p : PressNo) (k : ReleaseKind) (f : Frame) : (s.pushRelease p k f).tables = s.tables := rfl
@[simp] theorem State.pushRelease_targets (p : PressNo) (k : ReleaseKind) (f : Frame) : (s.pushRelease p k f).targets = s.targets := rfl
@[simp] theorem State.pushRelease_zones (p : PressNo) (k : ReleaseKind) (f : Frame) : (s.pushRelease p k f).zones = s.zones := rfl
@[simp] theorem State.pushRelease_periodCount (p : PressNo) (k : ReleaseKind) (f : Frame) : (s.pushRelease p k f).periodCount = s.periodCount := rfl
@[simp] theorem State.pushRelease_periodDue (p : PressNo) (k : ReleaseKind) (f : Frame) : (s.pushRelease p k f).periodDue = s.periodDue := rfl
@[simp] theorem State.pushRelease_guard (p : PressNo) (k : ReleaseKind) (f : Frame) : (s.pushRelease p k f).guard = s.guard := rfl
@[simp] theorem State.pushRelease_weigh (p : PressNo) (k : ReleaseKind) (f : Frame) : (s.pushRelease p k f).weigh = s.weigh := rfl
@[simp] theorem State.pushRelease_charges (p : PressNo) (k : ReleaseKind) (f : Frame) : (s.pushRelease p k f).charges = s.charges := rfl
@[simp] theorem State.pushRelease_presses (p : PressNo) (k : ReleaseKind) (f : Frame) : (s.pushRelease p k f).presses = s.presses := rfl
@[simp] theorem State.pushRelease_store (p : PressNo) (k : ReleaseKind) (f : Frame) : (s.pushRelease p k f).store = s.store := rfl
@[simp] theorem State.pushRelease_drain0 (p : PressNo) (k : ReleaseKind) (f : Frame) : (s.pushRelease p k f).drain0 = s.drain0 := rfl
@[simp] theorem State.pushRelease_pace (p : PressNo) (k : ReleaseKind) (f : Frame) : (s.pushRelease p k f).pace = s.pace := rfl
@[simp] theorem State.pushRelease_agent (p : PressNo) (k : ReleaseKind) (f : Frame) : (s.pushRelease p k f).agent = s.agent := rfl
@[simp] theorem State.pushRelease_notices (p : PressNo) (k : ReleaseKind) (f : Frame) : (s.pushRelease p k f).notices = s.notices := rfl
@[simp] theorem State.pushRelease_freeCount (p : PressNo) (k : ReleaseKind) (f : Frame) : (s.pushRelease p k f).freeCount = s.freeCount := rfl
@[simp] theorem State.pushRelease_pending (p : PressNo) (k : ReleaseKind) (f : Frame) : (s.pushRelease p k f).pending = s.pending := rfl

/-! ## State.pushResponse -/

@[simp] theorem State.pushResponse_now (f : Frame) : (s.pushResponse f).now = s.now := rfl
@[simp] theorem State.pushResponse_rstn (f : Frame) : (s.pushResponse f).rstn = s.rstn := rfl
@[simp] theorem State.pushResponse_own (f : Frame) : (s.pushResponse f).own = s.own := rfl
@[simp] theorem State.pushResponse_gdLevels (f : Frame) : (s.pushResponse f).gdLevels = s.gdLevels := rfl
@[simp] theorem State.pushResponse_mode (f : Frame) : (s.pushResponse f).mode = s.mode := rfl
@[simp] theorem State.pushResponse_line (f : Frame) : (s.pushResponse f).line = s.line := rfl
@[simp] theorem State.pushResponse_sync (f : Frame) : (s.pushResponse f).sync = s.sync := rfl
@[simp] theorem State.pushResponse_loss (f : Frame) : (s.pushResponse f).loss = s.loss := rfl
@[simp] theorem State.pushResponse_census (f : Frame) : (s.pushResponse f).census = s.census := rfl
@[simp] theorem State.pushResponse_tables (f : Frame) : (s.pushResponse f).tables = s.tables := rfl
@[simp] theorem State.pushResponse_targets (f : Frame) : (s.pushResponse f).targets = s.targets := rfl
@[simp] theorem State.pushResponse_zones (f : Frame) : (s.pushResponse f).zones = s.zones := rfl
@[simp] theorem State.pushResponse_periodCount (f : Frame) : (s.pushResponse f).periodCount = s.periodCount := rfl
@[simp] theorem State.pushResponse_periodDue (f : Frame) : (s.pushResponse f).periodDue = s.periodDue := rfl
@[simp] theorem State.pushResponse_guard (f : Frame) : (s.pushResponse f).guard = s.guard := rfl
@[simp] theorem State.pushResponse_weigh (f : Frame) : (s.pushResponse f).weigh = s.weigh := rfl
@[simp] theorem State.pushResponse_charges (f : Frame) : (s.pushResponse f).charges = s.charges := rfl
@[simp] theorem State.pushResponse_presses (f : Frame) : (s.pushResponse f).presses = s.presses := rfl
@[simp] theorem State.pushResponse_store (f : Frame) : (s.pushResponse f).store = s.store := rfl
@[simp] theorem State.pushResponse_drain0 (f : Frame) : (s.pushResponse f).drain0 = s.drain0 := rfl
@[simp] theorem State.pushResponse_pace (f : Frame) : (s.pushResponse f).pace = s.pace := rfl
@[simp] theorem State.pushResponse_notices (f : Frame) : (s.pushResponse f).notices = s.notices := rfl
@[simp] theorem State.pushResponse_freeCount (f : Frame) : (s.pushResponse f).freeCount = s.freeCount := rfl
@[simp] theorem State.pushResponse_pending (f : Frame) : (s.pushResponse f).pending = s.pending := rfl

/-! ## State.answered -/

@[simp] theorem State.answered_now (f : Frame) : (s.answered f).now = s.now := rfl
@[simp] theorem State.answered_rstn (f : Frame) : (s.answered f).rstn = s.rstn := rfl
@[simp] theorem State.answered_own (f : Frame) : (s.answered f).own = s.own := rfl
@[simp] theorem State.answered_gdLevels (f : Frame) : (s.answered f).gdLevels = s.gdLevels := rfl
@[simp] theorem State.answered_mode (f : Frame) : (s.answered f).mode = s.mode := rfl
@[simp] theorem State.answered_line (f : Frame) : (s.answered f).line = s.line := rfl
@[simp] theorem State.answered_sync (f : Frame) : (s.answered f).sync = s.sync := rfl
@[simp] theorem State.answered_loss (f : Frame) : (s.answered f).loss = s.loss := rfl
@[simp] theorem State.answered_census (f : Frame) : (s.answered f).census = s.census := rfl
@[simp] theorem State.answered_tables (f : Frame) : (s.answered f).tables = s.tables := rfl
@[simp] theorem State.answered_targets (f : Frame) : (s.answered f).targets = s.targets := rfl
@[simp] theorem State.answered_zones (f : Frame) : (s.answered f).zones = s.zones := rfl
@[simp] theorem State.answered_periodCount (f : Frame) : (s.answered f).periodCount = s.periodCount := rfl
@[simp] theorem State.answered_periodDue (f : Frame) : (s.answered f).periodDue = s.periodDue := rfl
@[simp] theorem State.answered_guard (f : Frame) : (s.answered f).guard = s.guard := rfl
@[simp] theorem State.answered_weigh (f : Frame) : (s.answered f).weigh = s.weigh := rfl
@[simp] theorem State.answered_charges (f : Frame) : (s.answered f).charges = s.charges := rfl
@[simp] theorem State.answered_presses (f : Frame) : (s.answered f).presses = s.presses := rfl
@[simp] theorem State.answered_store (f : Frame) : (s.answered f).store = s.store := rfl
@[simp] theorem State.answered_drain0 (f : Frame) : (s.answered f).drain0 = s.drain0 := rfl
@[simp] theorem State.answered_pace (f : Frame) : (s.answered f).pace = s.pace := rfl
@[simp] theorem State.answered_notices (f : Frame) : (s.answered f).notices = s.notices := rfl
@[simp] theorem State.answered_freeCount (f : Frame) : (s.answered f).freeCount = s.freeCount := rfl
@[simp] theorem State.answered_pending (f : Frame) : (s.answered f).pending = s.pending := rfl

/-! ## State.withPending -/

@[simp] theorem State.withPending_now (q : List Instr) : (s.withPending q).now = s.now := rfl
@[simp] theorem State.withPending_rstn (q : List Instr) : (s.withPending q).rstn = s.rstn := rfl
@[simp] theorem State.withPending_own (q : List Instr) : (s.withPending q).own = s.own := rfl
@[simp] theorem State.withPending_gdLevels (q : List Instr) : (s.withPending q).gdLevels = s.gdLevels := rfl
@[simp] theorem State.withPending_mode (q : List Instr) : (s.withPending q).mode = s.mode := rfl
@[simp] theorem State.withPending_line (q : List Instr) : (s.withPending q).line = s.line := rfl
@[simp] theorem State.withPending_sync (q : List Instr) : (s.withPending q).sync = s.sync := rfl
@[simp] theorem State.withPending_loss (q : List Instr) : (s.withPending q).loss = s.loss := rfl
@[simp] theorem State.withPending_census (q : List Instr) : (s.withPending q).census = s.census := rfl
@[simp] theorem State.withPending_tables (q : List Instr) : (s.withPending q).tables = s.tables := rfl
@[simp] theorem State.withPending_targets (q : List Instr) : (s.withPending q).targets = s.targets := rfl
@[simp] theorem State.withPending_zones (q : List Instr) : (s.withPending q).zones = s.zones := rfl
@[simp] theorem State.withPending_periodCount (q : List Instr) : (s.withPending q).periodCount = s.periodCount := rfl
@[simp] theorem State.withPending_periodDue (q : List Instr) : (s.withPending q).periodDue = s.periodDue := rfl
@[simp] theorem State.withPending_guard (q : List Instr) : (s.withPending q).guard = s.guard := rfl
@[simp] theorem State.withPending_weigh (q : List Instr) : (s.withPending q).weigh = s.weigh := rfl
@[simp] theorem State.withPending_charges (q : List Instr) : (s.withPending q).charges = s.charges := rfl
@[simp] theorem State.withPending_presses (q : List Instr) : (s.withPending q).presses = s.presses := rfl
@[simp] theorem State.withPending_store (q : List Instr) : (s.withPending q).store = s.store := rfl
@[simp] theorem State.withPending_drain0 (q : List Instr) : (s.withPending q).drain0 = s.drain0 := rfl
@[simp] theorem State.withPending_pace (q : List Instr) : (s.withPending q).pace = s.pace := rfl
@[simp] theorem State.withPending_agent (q : List Instr) : (s.withPending q).agent = s.agent := rfl
@[simp] theorem State.withPending_notices (q : List Instr) : (s.withPending q).notices = s.notices := rfl
@[simp] theorem State.withPending_freeCount (q : List Instr) : (s.withPending q).freeCount = s.freeCount := rfl

/-! ## The part that an update changes -/

@[simp] theorem State.updPress_self (p : PressNo) (f : Press → Press) :
    (s.updPress p f).presses[p] = f s.presses[p] := by simp [State.updPress]

theorem State.updPress_other {p q : PressNo} (f : Press → Press) (h : q ≠ p) :
    (s.updPress p f).presses[q] = s.presses[q] := by
  simp only [State.updPress, Fin.getElem_fin]
  exact Vector.getElem_set_ne _ _ (fun e => h (Fin.ext e.symm))

@[simp] theorem State.updZone_self (z : ZoneNo) (f : ZoneRecord → ZoneRecord) :
    (s.updZone z f).zones[z] = f s.zones[z] := by simp [State.updZone]

theorem State.updZone_other {z y : ZoneNo} (f : ZoneRecord → ZoneRecord) (h : y ≠ z) :
    (s.updZone z f).zones[y] = s.zones[y] := by
  simp only [State.updZone, Fin.getElem_fin]
  exact Vector.getElem_set_ne _ _ (fun e => h (Fin.ext e.symm))

@[simp] theorem State.setTarget_self (t : TargetNo) (x : Target) : (s.setTarget t x).targets[t] = x := by
  simp [State.setTarget]

theorem State.setTarget_other {t u : TargetNo} (x : Target) (h : u ≠ t) :
    (s.setTarget t x).targets[u] = s.targets[u] := by
  simp only [State.setTarget, Fin.getElem_fin]
  exact Vector.getElem_set_ne _ _ (fun e => h (Fin.ext e.symm))

@[simp] theorem State.setSlot_self (n : SlotNo) (x : Slot) : (s.setSlot n x).store.slots[n] = x := by
  simp [State.setSlot]

theorem State.setSlot_other {n m : SlotNo} (x : Slot) (h : m ≠ n) :
    (s.setSlot n x).store.slots[m] = s.store.slots[m] := by
  simp only [State.setSlot, Fin.getElem_fin]
  exact Vector.getElem_set_ne _ _ (fun e => h (Fin.ext e.symm))

@[simp] theorem State.setSlot_recordNo (n : SlotNo) (x : Slot) :
    (s.setSlot n x).store.recordNo = s.store.recordNo := rfl

@[simp] theorem State.setSlot_chargeNo (n : SlotNo) (x : Slot) :
    (s.setSlot n x).store.chargeNo = s.store.chargeNo := rfl

@[simp] theorem State.setSlot_serial (n : SlotNo) (x : Slot) :
    (s.setSlot n x).store.serial = s.store.serial := rfl

/-- An element of a vector changed everywhere. -/
@[simp] theorem getElem_mapVector {α : Type} {n : Nat} (f : α → α) (v : Vector α n) (i : Nat) (h : i < n) :
    (mapVector f v)[i] = f v[i] := by
  simp only [mapVector, Vector.getElem_mk, List.getElem_toArray, List.getElem_map]
  simp

end Sys2Proof.Machine
end

