-- ==== Sys2Proof/Laws/Only.lean ====
section
/-!
SUPPORT. How footprints compose: an operation that changes only the fields of a footprint (Safety.lean), after
another, under a choice or in a fold. Laws/Footprint.lean gives each shared operation its footprint.
-/

namespace Sys2Proof.Machine

open Sys2Proof

/-! ## The relation -/

/-- Nothing changes from a state to itself. -/
theorem Only.refl (c : Footprint) (s : State) : Only c s s := by
  constructor <;> intro _ <;> rfl

/-- Changes within a footprint compose. -/
theorem Only.trans {c : Footprint} {s t u : State} (h : Only c s t) (k : Only c t u) : Only c s u where
  now := fun e => (k.now e).trans (h.now e)
  rstn := fun e => (k.rstn e).trans (h.rstn e)
  own := fun e => (k.own e).trans (h.own e)
  gdLevels := fun e => (k.gdLevels e).trans (h.gdLevels e)
  mode := fun e => (k.mode e).trans (h.mode e)
  line := fun e => (k.line e).trans (h.line e)
  sync := fun e => (k.sync e).trans (h.sync e)
  loss := fun e => (k.loss e).trans (h.loss e)
  census := fun e => (k.census e).trans (h.census e)
  tables := fun e => (k.tables e).trans (h.tables e)
  targets := fun e => (k.targets e).trans (h.targets e)
  zones := fun e => (k.zones e).trans (h.zones e)
  periodCount := fun e => (k.periodCount e).trans (h.periodCount e)
  periodDue := fun e => (k.periodDue e).trans (h.periodDue e)
  guard := fun e => (k.guard e).trans (h.guard e)
  weigh := fun e => (k.weigh e).trans (h.weigh e)
  charges := fun e => (k.charges e).trans (h.charges e)
  presses := fun e => (k.presses e).trans (h.presses e)
  store := fun e => (k.store e).trans (h.store e)
  drain0 := fun e => (k.drain0 e).trans (h.drain0 e)
  pace := fun e => (k.pace e).trans (h.pace e)
  agent := fun e => (k.agent e).trans (h.agent e)
  notices := fun e => (k.notices e).trans (h.notices e)
  freeCount := fun e => (k.freeCount e).trans (h.freeCount e)
  pending := fun e => (k.pending e).trans (h.pending e)

/-- One footprint lies within another. -/
def Footprint.within (c d : Footprint) : Bool :=
  (!c.now || d.now) && (!c.rstn || d.rstn) && (!c.own || d.own) && (!c.gdLevels || d.gdLevels) && (!c.mode || d.mode) &&
  (!c.line || d.line) && (!c.sync || d.sync) && (!c.loss || d.loss) && (!c.census || d.census) && (!c.tables || d.tables) &&
  (!c.targets || d.targets) && (!c.zones || d.zones) && (!c.periodCount || d.periodCount) && (!c.periodDue || d.periodDue) && (!c.guard || d.guard) &&
  (!c.weigh || d.weigh) && (!c.charges || d.charges) && (!c.presses || d.presses) && (!c.store || d.store) && (!c.drain0 || d.drain0) &&
  (!c.pace || d.pace) && (!c.agent || d.agent) && (!c.notices || d.notices) && (!c.freeCount || d.freeCount) && (!c.pending || d.pending)

/-- A footprint may be widened. -/
theorem Only.widen {c d : Footprint} {s t : State} (h : Only c s t) (w : c.within d = true) : Only d s t := by
  simp only [Footprint.within, Bool.and_eq_true, Bool.or_eq_true, Bool.not_eq_true'] at w
  constructor <;> intro e
  · exact h.now (by simp_all)
  · exact h.rstn (by simp_all)
  · exact h.own (by simp_all)
  · exact h.gdLevels (by simp_all)
  · exact h.mode (by simp_all)
  · exact h.line (by simp_all)
  · exact h.sync (by simp_all)
  · exact h.loss (by simp_all)
  · exact h.census (by simp_all)
  · exact h.tables (by simp_all)
  · exact h.targets (by simp_all)
  · exact h.zones (by simp_all)
  · exact h.periodCount (by simp_all)
  · exact h.periodDue (by simp_all)
  · exact h.guard (by simp_all)
  · exact h.weigh (by simp_all)
  · exact h.charges (by simp_all)
  · exact h.presses (by simp_all)
  · exact h.store (by simp_all)
  · exact h.drain0 (by simp_all)
  · exact h.pace (by simp_all)
  · exact h.agent (by simp_all)
  · exact h.notices (by simp_all)
  · exact h.freeCount (by simp_all)
  · exact h.pending (by simp_all)

/-- Changes within a footprint compose after widening. -/
theorem Only.andThen {c d e : Footprint} {s t u : State} (h : Only c s t) (k : Only d t u)
    (w : (c.within e && d.within e) = true) : Only e s u := by
  rw [Bool.and_eq_true] at w
  exact (h.widen w.1).trans (k.widen w.2)

/-- A fold of operations keeps to their footprint. -/
theorem Only.foldl {c : Footprint} {α : Type} {f : State → α → State} (h : ∀ s x, Only c s (f s x)) :
    ∀ (l : List α) (s : State), Only c s (l.foldl f s) := by
  intro l
  induction l with
  | nil => exact fun s => Only.refl c s
  | cons x xs ih => exact fun s => (h s x).trans (ih _)

/-- A choice keeps to a footprint that both sides keep to. -/
theorem Only.ite {c : Footprint} {s t u : State} {b : Prop} [Decidable b] (h : Only c s t) (k : Only c s u) :
    Only c s (if b then t else u) := by
  split
  · exact h
  · exact k

end Sys2Proof.Machine
end

