-- ==== Sys2Proof/Laws/Footprint.lean ====
section
/-!
SUPPORT. The footprint of every shared operation: the fields of State it may change, and no other. A proof that
needs a field unchanged takes it from here and unfolds nothing.
-/

namespace Sys2Proof.Machine

open Sys2Proof

/-- An operation with footprint `d` after one within `c`. -/
theorem Only.after {c d : Footprint} {s t u : State} (h : Only c s t) (k : Only d t u)
    (w : d.within c = true) : Only c s u := h.trans (k.widen w)

theorem State.updPress_only (s : State) (p : PressNo) (f : Press → Press) :
    Only { presses := true } s (s.updPress p f) := by
  constructor <;> intro e <;> first | rfl | (simp at e)

theorem State.updZone_only (s : State) (z : ZoneNo) (f : ZoneRecord → ZoneRecord) :
    Only { zones := true } s (s.updZone z f) := by
  constructor <;> intro e <;> first | rfl | (simp at e)

theorem State.setTarget_only (s : State) (t : TargetNo) (x : Target) :
    Only { targets := true } s (s.setTarget t x) := by
  constructor <;> intro e <;> first | rfl | (simp at e)

theorem State.updCycle_only (s : State) (p : PressNo) (f : CycleRecord → CycleRecord) :
    Only { presses := true } s (s.updCycle p f) := by
  constructor <;> intro e <;> first | rfl | (simp at e)

theorem State.updNotices_only (s : State) (f : NoticeUnit → NoticeUnit) :
    Only { notices := true } s (s.updNotices f) := by
  constructor <;> intro e <;> first | rfl | (simp at e)

theorem State.updLatches_only (s : State) (f : Latches → Latches) :
    Only { notices := true } s (s.updLatches f) := by
  constructor <;> intro e <;> first | rfl | (simp at e)

theorem State.setSlot_only (s : State) (n : SlotNo) (x : Slot) :
    Only { store := true } s (s.setSlot n x) := by
  constructor <;> intro e <;> first | rfl | (simp at e)

theorem State.raise_only (s : State) (k : NoticeKind) (a b : Nat) :
    Only { notices := true } s (s.raise k a b) := by
  constructor <;> intro e <;> first | rfl | (simp at e)

theorem State.pushDown_only (s : State) (f : Frame) :
    Only { line := true } s (s.pushDown f) := by
  constructor <;> intro e <;> first | rfl | (simp at e)

theorem State.pushRelease_only (s : State) (p : PressNo) (k : ReleaseKind) (f : Frame) :
    Only { line := true } s (s.pushRelease p k f) := by
  constructor <;> intro e <;> first | rfl | (simp at e)

theorem State.pushResponse_only (s : State) (f : Frame) :
    Only { agent := true } s (s.pushResponse f) := by
  constructor <;> intro e <;> first | rfl | (simp at e)

theorem State.respond_only (s : State) (a : Addr) (tag op : Byte) (r : MgmtResult) (d : List Byte) :
    Only { agent := true } s (s.respond a tag op r d) := by
  constructor <;> intro e <;> first | rfl | (simp at e)

theorem State.sendD_only (s : State) (f : Frame) (x : DSource) :
    Only { line := true } s (s.sendD f x) := by
  constructor <;> intro e <;> first | rfl | (simp at e)

theorem State.sendU_only (s : State) (f : Frame) (x : USource) :
    Only { line := true } s (s.sendU f x) := by
  constructor <;> intro e <;> first | rfl | (simp at e)

theorem State.setHold_only (s : State) (h : DrainHold) :
    Only { line := true } s (s.setHold h) := by
  constructor <;> intro e <;> first | rfl | (simp at e)

theorem State.setGuard_only (s : State) (n : Fin 4) (g : GuardInput) :
    Only { guard := true } s (s.setGuard n g) := by
  constructor <;> intro e <;> first | rfl | (simp at e)

theorem State.weighMove_only (s : State) (x : WeighState) :
    Only { weigh := true } s (s.weighMove x) := by
  constructor <;> intro e <;> first | rfl | (simp at e)

theorem State.weighPush_only (s : State) (i : WeighItem) :
    Only { weigh := true } s (s.weighPush i) := by
  constructor <;> intro e <;> first | rfl | (simp at e)

theorem State.setChargeNo_only (s : State) (n : ChargeNo) :
    Only { store := true } s (s.setChargeNo n) := by
  constructor <;> intro e <;> first | rfl | (simp at e)

theorem State.clearMarks_only (s : State) (t e : Nat) :
    Only { agent := true } s (s.clearMarks t e) := by
  constructor <;> intro e <;> first | rfl | (simp at e)

theorem State.censusTouch_only (s : State) :
    Only { census := true } s (s.censusTouch) := by
  constructor <;> intro e <;> first | rfl | (simp at e)

theorem State.post_only (s : State) (w : Write) :
    Only { agent := true } s (s.post w) := by
  constructor <;> intro e <;> first | rfl | (simp at e)

theorem State.postedDone_only (s : State) :
    Only { agent := true } s (s.postedDone) := by
  constructor <;> intro e <;> first | rfl | (simp at e)

theorem State.openRead_only (s : State) (i : Fin 4) (c : Context) :
    Only { agent := true } s (s.openRead i c) := by
  constructor <;> intro e <;> first | rfl | (simp at e)

theorem State.setMark_only (s : State) (i : Fin 4) (m : Mark) :
    Only { agent := true } s (s.setMark i m) := by
  constructor <;> intro e <;> first | rfl | (simp at e)

theorem State.startRun_only (s : State) (a : Addr) (m : DrainMode) (n : Nat) :
    Only { drain0 := true } s (s.startRun a m n) := by
  constructor <;> intro e <;> first | rfl | (simp at e)

theorem State.waive_only (s : State) :
    Only { store := true, pace := true } s (s.waive) := by
  constructor <;> intro e <;> first | rfl | (simp at e)

theorem State.enterConfig_only (s : State) :
    Only { mode := true, line := true } s (s.enterConfig) := by
  constructor <;> intro e <;> first | rfl | (simp at e)

theorem State.pushEject_only (s : State) (p : PressNo) (f : Frame) :
    Only { line := true } s (s.pushEject p f) := by
  constructor <;> intro e <;> first | rfl | (simp at e)

theorem State.restartDrains_only (s : State) :
    Only { line := true, presses := true, drain0 := true, pace := true } s (s.restartDrains) := by
  constructor <;> intro e <;> first | rfl | (simp at e)

theorem State.restartAgent_only (s : State) :
    Only { agent := true } s (s.restartAgent) := by
  constructor <;> intro e <;> first | rfl | (simp at e)

theorem State.restartNotices_only (s : State) :
    Only { census := true, notices := true } s (s.restartNotices) := by
  constructor <;> intro e <;> first | rfl | (simp at e)

theorem State.restartWeigh_only (s : State) :
    Only { weigh := true } s (s.restartWeigh) := by
  constructor <;> intro e <;> first | rfl | (simp at e)

theorem State.releaseTo_only (s : State) (n : Number) :
    Only { store := true } s (s.releaseTo n) := by
  constructor <;> intro e <;> first | rfl | (simp at e)

theorem State.takeCharge_only (s : State) (p : PressNo) (e : ChargeEntry) :
    Only { charges := true, store := true } s (s.takeCharge p e) := by
  constructor <;> intro e <;> first | rfl | (simp at e)

theorem State.count_only (s : State) (c : Fin 12) :
    Only { notices := true } s (s.count c) := by
  unfold State.count
  (repeat' split) <;>
    repeat (first
      | with_reducible exact Only.refl _ _
      | with_reducible refine Only.after ?_ (State.updNotices_only _ _) rfl
      | with_reducible refine Only.after ?_ (State.raise_only _ _ _ _) rfl)

theorem State.refuse_only (s : State) (p : PressNo) (c : RefusalCause) :
    Only { notices := true } s (s.refuse p c) := by
  unfold State.refuse
  repeat (first
      | with_reducible exact Only.refl _ _
      | with_reducible refine Only.after ?_ (State.raise_only _ _ _ _) rfl
      | with_reducible refine Only.after ?_ (State.count_only _ _) rfl)

theorem State.overrun_only (s : State) (c : Fin 12) (n : Nat) :
    Only { notices := true } s (s.overrun c n) := by
  unfold State.overrun
  repeat (first
      | with_reducible exact Only.refl _ _
      | with_reducible refine Only.after ?_ (State.updLatches_only _ _) rfl
      | with_reducible refine Only.after ?_ (State.raise_only _ _ _ _) rfl
      | with_reducible refine Only.after ?_ (State.count_only _ _) rfl)

theorem State.setPressState_only (s : State) (p : PressNo) (x : PressState) :
    Only { presses := true, notices := true } s (s.setPressState p x) := by
  unfold State.setPressState
  (repeat' split) <;>
    repeat (first
      | with_reducible exact Only.refl _ _
      | with_reducible refine Only.after ?_ (State.updPress_only _ _ _) rfl
      | with_reducible refine Only.after ?_ (State.raise_only _ _ _ _) rfl)

theorem State.storeRecord_only (s : State) (n : SlotNo) (r : Record) :
    Only { store := true, notices := true } s (s.storeRecord n r) := by
  unfold State.storeRecord
  repeat (first
      | with_reducible refine Only.after ?_ (State.setSlot_only _ _ _) rfl
      | with_reducible refine Only.after ?_ (State.raise_only _ _ _ _) rfl
      | (constructor <;> intro e <;> first | rfl | (simp at e)))

theorem State.reserveSlot_only (s : State) (n : SlotNo) (h : Holder) :
    Only { store := true, notices := true } s (s.reserveSlot n h) := by
  have k := (State.setSlot_only s n (.reserved h)).widen (d := { store := true, notices := true }) rfl
  exact Only.ite (k.after (State.raise_only _ _ _ _) rfl) k

theorem State.endRun_only (s : State) (c : EndCause) :
    Only { line := true, drain0 := true, notices := true } s (s.endRun c) := by
  unfold State.endRun
  (repeat' split) <;>
    repeat (first
      | with_reducible refine Only.after ?_ (State.updLatches_only _ _) rfl
      | with_reducible refine Only.after ?_ (State.raise_only _ _ _ _) rfl
      | (constructor <;> intro e <;> first | rfl | (simp at e)))

theorem State.finalise_only (s : State) (p : PressNo) (d : Disposition) (x : PressState) :
    Only { presses := true, store := true, notices := true } s (s.finalise p d x) := by
  unfold State.finalise
  refine Only.after (Only.after ?_ (State.updPress_only _ _ _) rfl) (State.setPressState_only _ _ _) rfl
  have h := State.updPress_only s p (fun q => { q.cancelTimers with hold := none })
  split
  · exact Only.after (h.widen rfl) (State.storeRecord_only _ _ _) rfl
  · exact h.widen rfl

theorem State.orderHalt_only (s : State) (p : PressNo) :
    Only { line := true, presses := true } s (s.orderHalt p) := by
  unfold State.orderHalt
  (repeat' split) <;>
    repeat (first
      | with_reducible refine Only.after ?_ (State.updPress_only _ _ _) rfl
      | (constructor <;> intro e <;> first | rfl | (simp at e)))

theorem State.haltIfEjecting_only (s : State) (p : PressNo) :
    Only { line := true, presses := true } s (s.haltIfEjecting p) := by
  unfold State.haltIfEjecting
  (repeat' split) <;>
    repeat (first
      | with_reducible exact Only.refl _ _
      | with_reducible refine Only.after ?_ (State.orderHalt_only _ _) rfl)

theorem State.enterStuck_only (s : State) (p : PressNo) (c : StuckCause) :
    Only { line := true, presses := true, notices := true } s (s.enterStuck p c) := by
  unfold State.enterStuck
  repeat (first
      | with_reducible exact Only.refl _ _
      | with_reducible refine Only.after ?_ (State.updPress_only _ _ _) rfl
      | with_reducible refine Only.after ?_ (State.updCycle_only _ _ _) rfl
      | with_reducible refine Only.after ?_ (State.orderHalt_only _ _) rfl
      | with_reducible refine Only.after ?_ (State.setPressState_only _ _ _) rfl
      | with_reducible refine Only.after ?_ (State.raise_only _ _ _ _) rfl)

theorem State.guardOpening_only (s : State) (p : PressNo) :
    Only { line := true, presses := true, notices := true } s (s.guardOpening p) := by
  unfold State.guardOpening
  (repeat' split) <;>
    repeat (first
      | with_reducible exact Only.refl _ _
      | with_reducible refine Only.after ?_ (State.enterStuck_only _ _ _) rfl
      | with_reducible refine Only.after ?_ (State.updCycle_only _ _ _) rfl)

theorem State.latchCause_only (s : State) (b : Bool) :
    Only { notices := true } s (s.latchCause b) := by
  unfold State.latchCause
  repeat (first
      | with_reducible exact Only.refl _ _
      | with_reducible refine Only.after ?_ (State.updLatches_only _ _) rfl)

theorem State.declareLoss_only (s : State) (b : Bool) :
    Only { loss := true, notices := true } s (s.declareLoss b) := by
  unfold State.declareLoss
  repeat (first
      | with_reducible refine Only.after ?_ (State.raise_only _ _ _ _) rfl
      | with_reducible refine Only.after ?_ (State.latchCause_only _ _) rfl
      | (constructor <;> intro e <;> first | rfl | (simp at e)))

theorem State.addCause_only (s : State) (b : Bool) :
    Only { loss := true, notices := true } s (s.addCause b) := by
  unfold State.addCause
  repeat (first
      | with_reducible refine Only.after ?_ (State.latchCause_only _ _) rfl
      | (constructor <;> intro e <;> first | rfl | (simp at e)))

theorem State.lineStuck_only (s : State) (p : PressNo) :
    Only { line := true, presses := true, notices := true } s (s.lineStuck p) := by
  unfold State.lineStuck
  (repeat' split) <;>
    repeat (first
      | with_reducible exact Only.refl _ _
      | with_reducible refine Only.after ?_ (State.enterStuck_only _ _ _) rfl)

theorem State.lossCause_only (s : State) (b : Bool) :
    Only { line := true, loss := true, presses := true, notices := true } s (s.lossCause b) := by
  unfold State.lossCause
  split
  · exact (State.addCause_only s b).widen rfl
  · exact ((State.declareLoss_only s b).widen rfl).after (Only.foldl State.lineStuck_only _ _) rfl

theorem State.lossBad_only (s : State) :
    Only { line := true, loss := true, presses := true, notices := true } s (s.lossBad) := by
  simp only [State.lossBad]
  (repeat' split) <;>
    repeat (first
      | with_reducible exact Only.refl _ _
      | with_reducible refine Only.after ?_ (State.lossCause_only _ _) rfl
      | (constructor <;> intro e <;> first | rfl | (simp at e)))

theorem State.lossGood_only (s : State) :
    Only { loss := true, notices := true } s (s.lossGood) := by
  simp only [State.lossGood]
  (repeat' split) <;>
    repeat (first
      | with_reducible exact Only.refl _ _
      | with_reducible refine Only.after ?_ (State.raise_only _ _ _ _) rfl
      | (constructor <;> intro e <;> first | rfl | (simp at e)))

theorem State.syncArrival_only (s : State) :
    Only { sync := true, notices := true } s (s.syncArrival) := by
  unfold State.syncArrival
  (repeat' split) <;>
    repeat (first
      | with_reducible refine Only.after ?_ (State.raise_only _ _ _ _) rfl
      | (constructor <;> intro e <;> first | rfl | (simp at e)))

theorem State.censusComplete_only (s : State) :
    Only { census := true, notices := true } s (s.censusComplete) := by
  unfold State.censusComplete
  repeat (first
      | with_reducible refine Only.after ?_ (State.raise_only _ _ _ _) rfl
      | (constructor <;> intro e <;> first | rfl | (simp at e)))

theorem State.censusNext_only (s : State) (b : Bool) :
    Only { census := true, notices := true } s (s.censusNext b) := by
  unfold State.censusNext
  (repeat' split) <;>
    repeat (first
      | with_reducible refine Only.after ?_ (State.censusComplete_only _) rfl
      | (constructor <;> intro e <;> first | rfl | (simp at e)))

theorem State.startStroke_only (s : State) (p : PressNo) (f : Frame) :
    Only { line := true, presses := true, notices := true } s (s.startStroke p f) := by
  unfold State.startStroke
  have h := Only.after (Only.after (c := { line := true, presses := true, notices := true })
    ((State.pushEject_only s p f).widen rfl) (State.updPress_only _ p (fun q =>
    { q with stroke := q.stroke + 1, ejectStart := some s.now, debounce := 0, stuckCause := none,
             ejectT := s.timer s.tables.pt[p].ejectMs })) rfl) (State.setPressState_only _ p .ejecting) rfl
  split
  · exact h.after (State.enterStuck_only _ _ _) rfl
  · exact h

theorem State.forceReading_only (s : State) (p : PressNo) (n : Nat) :
    Only { line := true, presses := true, notices := true } s (s.forceReading p n) := by
  simp only [State.forceReading]
  (repeat' split) <;>
    repeat (first
      | with_reducible exact Only.refl _ _
      | with_reducible refine Only.after ?_ (State.updPress_only _ _ _) rfl
      | with_reducible refine Only.after ?_ (State.enterStuck_only _ _ _) rfl)

theorem State.labelFrame_only (s : State) (p : PressNo) (n : Number) :
    Only { line := true } s (s.labelFrame p n) := by
  unfold State.labelFrame
  (repeat' split) <;>
    repeat (first
      | with_reducible exact Only.refl _ _
      | with_reducible refine Only.after ?_ (State.pushRelease_only _ _ _ _) rfl)

theorem State.ejectorOut_only (s : State) (p : PressNo) :
    Only { line := true, presses := true, store := true, notices := true } s (s.ejectorOut p) := by
  unfold State.ejectorOut
  (repeat' split) <;>
    repeat (first
      | with_reducible refine Only.after ?_ (State.updPress_only _ _ _) rfl
      | with_reducible refine Only.after ?_ (State.updCycle_only _ _ _) rfl
      | with_reducible refine Only.after ?_ (State.labelFrame_only _ _ _) rfl
      | with_reducible refine Only.after ?_ (State.setPressState_only _ _ _) rfl
      | (constructor <;> intro e <;> first | rfl | (simp at e)))

theorem State.posReading_only (s : State) (p : PressNo) (n : Nat) :
    Only { line := true, presses := true, store := true, notices := true } s (s.posReading p n) := by
  unfold State.posReading
  split
  · exact Only.ite ((State.ejectorOut_only _ _).widen rfl) (Only.refl _ _)
  · exact Only.ite ((State.finalise_only _ _ _ _).widen rfl) (Only.refl _ _)
  all_goals exact Only.refl _ _

theorem State.flagSyncLost_only (s : State) (p : PressNo) :
    Only { zones := true } s (s.flagSyncLost p) := by
  unfold State.flagSyncLost
  repeat (first
      | with_reducible exact Only.refl _ _
      | refine Only.after ?_ (Only.foldl (fun s x => State.updZone_only s x _) _ _) rfl)

theorem State.clearZones_only (s : State) (p : PressNo) (x : ZoneState) :
    Only { zones := true } s (s.clearZones p x) := by
  unfold State.clearZones
  repeat (first
      | with_reducible exact Only.refl _ _
      | refine Only.after ?_ (Only.foldl (fun s x => State.updZone_only s x _) _ _) rfl)

theorem State.newCycleZones_only (s : State) (p : PressNo) :
    Only { zones := true } s (s.newCycleZones p) := by
  unfold State.newCycleZones
  repeat (first
      | with_reducible exact Only.refl _ _
      | refine Only.after ?_ (Only.foldl (fun s x => State.updZone_only s x _) _ _) rfl)

theorem State.platenClosed_only (s : State) (p : PressNo) :
    Only { zones := true, presses := true, notices := true } s (s.platenClosed p) := by
  unfold State.platenClosed
  (repeat' split) <;>
    repeat (first
      | with_reducible exact Only.refl _ _
      | with_reducible refine Only.after ?_ (State.updPress_only _ _ _) rfl
      | with_reducible refine Only.after ?_ (State.flagSyncLost_only _ _) rfl
      | with_reducible refine Only.after ?_ (State.setPressState_only _ _ _) rfl)

theorem State.platenReading_only (s : State) (p : PressNo) (n : Nat) :
    Only { zones := true, presses := true, notices := true } s (s.platenReading p n) := by
  unfold State.platenReading
  (repeat' split) <;>
    repeat (first
      | with_reducible exact Only.refl _ _
      | with_reducible refine Only.after ?_ (State.platenClosed_only _ _) rfl
      | with_reducible refine Only.after ?_ (State.updPress_only _ _ _) rfl
      | with_reducible refine Only.after ?_ (State.setPressState_only _ _ _) rfl)

theorem State.releaseOpen_only (s : State) (p : PressNo) (f : Frame) :
    Only { line := true, presses := true, notices := true } s (s.releaseOpen p f) := by
  unfold State.releaseOpen
  repeat (first
      | with_reducible exact Only.refl _ _
      | with_reducible refine Only.after ?_ (State.updPress_only _ _ _) rfl
      | with_reducible refine Only.after ?_ (State.pushRelease_only _ _ _ _) rfl
      | with_reducible refine Only.after ?_ (State.raise_only _ _ _ _) rfl
      | with_reducible refine Only.after ?_ (State.setPressState_only _ _ _) rfl)

theorem State.becomeCured_only (s : State) (p : PressNo) :
    Only { line := true, presses := true, notices := true } s (s.becomeCured p) := by
  unfold State.becomeCured
  have h := Only.after (Only.after (c := { line := true, presses := true, notices := true })
    ((State.updCycle_only s p (fun c => { c with
      cureTime := (s.presses[p].closed).map (secondsSince s.now) })).widen rfl)
    (State.updPress_only _ p (fun q => { q with dwellT := none })) rfl) (State.setPressState_only _ p .cured) rfl
  split
  · exact h.after (State.releaseOpen_only _ _ _) rfl
  · exact h

theorem State.testCured_only (s : State) (p : PressNo) :
    Only { line := true, presses := true, notices := true } s (s.testCured p) := by
  unfold State.testCured
  (repeat' split) <;>
    repeat (first
      | with_reducible exact Only.refl _ _
      | with_reducible refine Only.after ?_ (State.becomeCured_only _ _) rfl)

theorem State.pressToIdle_only (s : State) (p : PressNo) :
    Only { zones := true, presses := true, notices := true } s (s.pressToIdle p) := by
  unfold State.pressToIdle
  repeat (first
      | with_reducible exact Only.refl _ _
      | with_reducible refine Only.after ?_ (State.updPress_only _ _ _) rfl
      | with_reducible refine Only.after ?_ (State.clearZones_only _ _ _) rfl
      | with_reducible refine Only.after ?_ (State.setPressState_only _ _ _) rfl)

theorem State.zoneReading_only (s : State) (z : ZoneNo) (n : Nat) :
    Only { zones := true } s (s.zoneReading z n) := by
  unfold State.zoneReading
  repeat (first
      | with_reducible exact Only.refl _ _
      | with_reducible refine Only.after ?_ (State.updZone_only _ _ _) rfl)

theorem State.reconvert_only (s : State) (z : ZoneNo) :
    Only { zones := true } s (s.reconvert z) := by
  unfold State.reconvert
  (repeat' split) <;>
    repeat (first
      | with_reducible exact Only.refl _ _
      | with_reducible refine Only.after ?_ (State.updZone_only _ _ _) rfl)

theorem State.weighEnterOff_only (s : State) (b : Bool) :
    Only { weigh := true, notices := true } s (s.weighEnterOff b) := by
  unfold State.weighEnterOff
  (repeat' split) <;>
    repeat (first
      | with_reducible exact Only.refl _ _
      | with_reducible refine Only.after ?_ (State.weighMove_only _ _) rfl
      | with_reducible refine Only.after ?_ (State.count_only _ _) rfl)

theorem State.weighGate_only (s : State) :
    Only { weigh := true, notices := true } s (s.weighGate) := by
  unfold State.weighGate
  (repeat' split) <;>
    repeat (first
      | with_reducible exact Only.refl _ _
      | with_reducible refine Only.after ?_ (State.weighEnterOff_only _ _) rfl
      | with_reducible refine Only.after ?_ (State.weighMove_only _ _) rfl)

theorem State.recordCharge_only (s : State) (e : ChargeEntry) (d : Disposition) :
    Only { store := true, notices := true } s (s.recordCharge e d) := by
  unfold State.recordCharge
  repeat (first
      | with_reducible exact Only.refl _ _
      | with_reducible refine Only.after ?_ (State.storeRecord_only _ _ _) rfl)

theorem State.acceptCharge_only (s : State) (n : SlotNo) (r : RecipeNo) (w : Nat) (x : Int) :
    Only { charges := true, store := true, notices := true } s (s.acceptCharge n r w x) := by
  unfold State.acceptCharge
  refine Only.after (Only.trans (Only.after ((State.setChargeNo_only s s.nextChargeNo).widen rfl)
    (State.reserveSlot_only _ n (.charge s.nextChargeNo)) rfl) ?_) (State.raise_only _ _ _ _) rfl
  · constructor <;> intro e <;> first | rfl | (simp at e)

theorem State.rejectCharge_only (s : State) (n : SlotNo) (r : RecipeNo) (w : Nat) (x : Int) (d : Disposition) :
    Only { store := true, notices := true } s (s.rejectCharge n r w x d) := by
  unfold State.rejectCharge
  exact Only.after (Only.after (Only.after ((State.setChargeNo_only _ _).widen rfl)
    (State.reserveSlot_only _ _ _) rfl) (State.storeRecord_only _ _ _) rfl) (State.raise_only _ _ _ _) rfl

theorem State.judgeRemoval_only (s : State) (r : RecipeNo) (v : Verdict) (w : Nat) (x : Int) :
    Only { charges := true, store := true, notices := true } s (s.judgeRemoval r v w x) := by
  unfold State.judgeRemoval
  split
  · exact Only.after ((State.raise_only _ _ _ _).widen rfl) (State.count_only _ _) rfl
  · split
    · exact Only.ite ((State.acceptCharge_only _ _ _ _ _).widen rfl)
        ((State.rejectCharge_only _ _ _ _ _ _).widen rfl)
    · exact (State.rejectCharge_only _ _ _ _ _ _).widen rfl
    · exact (State.rejectCharge_only _ _ _ _ _ _).widen rfl

theorem State.weighJudge_only (s : State) :
    Only { weigh := true } s (s.weighJudge) := by
  unfold State.weighJudge
  (repeat' split) <;>
    (constructor <;> intro e <;> first | rfl | (simp at e))

theorem State.weighReading_only (s : State) (n : Nat) :
    Only { weigh := true, charges := true, store := true, notices := true } s (s.weighReading n) := by
  simp only [State.weighReading]
  (repeat' split) <;>
    repeat (first
      | with_reducible exact Only.refl _ _
      | with_reducible refine Only.after ?_ (State.weighMove_only _ _) rfl
      | with_reducible refine Only.after ?_ (State.weighPush_only _ _) rfl
      | with_reducible refine Only.after ?_ (State.weighJudge_only _) rfl
      | with_reducible refine Only.after ?_ (State.count_only _ _) rfl
      | with_reducible refine Only.after ?_ (State.judgeRemoval_only _ _ _ _ _) rfl
      | (constructor <;> intro e <;> first | rfl | (simp at e)))

theorem State.weighCheck_only (s : State) :
    Only { weigh := true, notices := true } s (s.weighCheck) := by
  unfold State.weighCheck
  (repeat' split) <;>
    repeat (first
      | with_reducible exact Only.refl _ _
      | with_reducible refine Only.after ?_ (State.weighMove_only _ _) rfl
      | with_reducible refine Only.after ?_ (State.count_only _ _) rfl)

theorem State.expireCharge_only (s : State) (e : ChargeEntry) :
    Only { charges := true, store := true, notices := true } s (s.expireCharge e) := by
  unfold State.expireCharge
  repeat (first
      | with_reducible refine Only.after ?_ (State.recordCharge_only _ _ _) rfl
      | with_reducible refine Only.after ?_ (State.raise_only _ _ _ _) rfl
      | (constructor <;> intro e <;> first | rfl | (simp at e)))

theorem State.sensorFault_only (s : State) (e : ChtEntry) :
    Only { zones := true } s (s.sensorFault e) := by
  unfold State.sensorFault
  (repeat' split) <;>
    repeat (first
      | with_reducible exact Only.refl _ _
      | with_reducible refine Only.after ?_ (State.updZone_only _ _ _) rfl)

theorem State.ownerReading_only (s : State) (r : Role) (i n : Nat) :
    Only { line := true, zones := true, weigh := true, charges := true, presses := true, store := true,
           notices := true } s (s.ownerReading r i n) := by
  unfold State.ownerReading
  (repeat' split) <;>
    repeat (first
      | with_reducible exact Only.refl _ _
      | with_reducible refine Only.after ?_ (State.zoneReading_only _ _ _) rfl
      | with_reducible refine Only.after ?_ (State.weighReading_only _ _) rfl
      | with_reducible refine Only.after ?_ (State.platenReading_only _ _ _) rfl
      | with_reducible refine Only.after ?_ (State.posReading_only _ _ _) rfl
      | with_reducible refine Only.after ?_ (State.forceReading_only _ _ _) rfl)

theorem State.handReading_only (s : State) (e : ChtEntry) (n : Nat) :
    Only { line := true, targets := true, zones := true, weigh := true, charges := true, presses := true,
           store := true, notices := true } s (s.handReading e n) := by
  unfold State.handReading
  (repeat' split) <;>
    repeat (first
      | with_reducible exact Only.refl _ _
      | with_reducible refine Only.after ?_ (State.setTarget_only _ _ _) rfl
      | with_reducible refine Only.after ?_ (State.ownerReading_only _ _ _ _) rfl)

theorem State.classifyReading_only (s : State) (a : Addr) (r : Reading) :
    Only { line := true, targets := true, zones := true, weigh := true, charges := true, presses := true,
           store := true, notices := true } s (State.classifyReading a s r) := by
  unfold State.classifyReading
  (repeat' split) <;>
    repeat (first
      | with_reducible exact Only.refl _ _
      | with_reducible refine Only.after ?_ (State.sensorFault_only _ _) rfl
      | with_reducible refine Only.after ?_ (State.handReading_only _ _ _) rfl)

theorem State.classify_only (s : State) (f : Frame) :
    Only { line := true, targets := true, zones := true, weigh := true, charges := true, presses := true,
           store := true, notices := true } s (s.classify f) := by
  simp only [State.classify]
  (repeat' split) <;>
    first
      | with_reducible exact Only.refl _ _
      | exact Only.foldl (fun s x => State.classifyReading_only s _ x) _ _

theorem State.forgetTemp_only (s : State) (t : TargetNo) :
    Only { zones := true } s (s.forgetTemp t) := by
  unfold State.forgetTemp
  (repeat' split) <;>
    repeat (first
      | with_reducible exact Only.refl _ _
      | with_reducible refine Only.after ?_ (State.updZone_only _ _ _) rfl)

theorem State.resetTarget_only (s : State) (t : Option TargetNo) (x : Target) :
    Only { targets := true, zones := true } s (s.resetTarget t x) := by
  unfold State.resetTarget
  (repeat' split) <;>
    repeat (first
      | with_reducible exact Only.refl _ _
      | with_reducible refine Only.after ?_ (State.setTarget_only _ _ _) rfl
      | with_reducible refine Only.after ?_ (State.forgetTemp_only _ _) rfl)

theorem State.applyCht_only (s : State) (i : Fin 64) (e : ChtEntry) :
    Only { tables := true, targets := true, zones := true, weigh := true, notices := true } s (s.applyCht i e) := by
  simp only [State.applyCht]
  (repeat' split) <;>
    repeat (first
      | with_reducible exact Only.refl _ _
      | with_reducible refine Only.after ?_ (State.resetTarget_only _ _ _) rfl
      | with_reducible refine Only.after ?_ (State.weighGate_only _) rfl
      | (constructor <;> intro e <;> first | rfl | (simp at e)))

theorem State.zonePi_only (s : State) (z : ZoneNo) :
    Only { zones := true } s (s.zonePi z) := by
  unfold State.zonePi
  (repeat' split) <;>
    repeat (first
      | with_reducible exact Only.refl _ _
      | with_reducible refine Only.after ?_ (State.updZone_only _ _ _) rfl)

theorem State.zoneHold_only (s : State) (z : ZoneNo) (n : Nat) (x : ZoneState) :
    Only { zones := true } s (s.zoneHold z n x) := by
  unfold State.zoneHold
  repeat (first
      | with_reducible exact Only.refl _ _
      | with_reducible refine Only.after ?_ (State.updZone_only _ _ _) rfl)

theorem State.zoneStale_only (s : State) (z : ZoneNo) :
    Only { zones := true, notices := true } s (s.zoneStale z) := by
  simp only [State.zoneStale]
  (repeat' split) <;>
    repeat (first
      | with_reducible exact Only.refl _ _
      | with_reducible refine Only.after ?_ (State.raise_only _ _ _ _) rfl
      | with_reducible refine Only.after ?_ (State.zoneHold_only _ _ _ _) rfl)

theorem State.zoneRegulate_only (s : State) (z : ZoneNo) :
    Only { zones := true, notices := true } s (s.zoneRegulate z) := by
  unfold State.zoneRegulate
  (repeat' split) <;>
    repeat (first
      | with_reducible exact Only.refl _ _
      | with_reducible refine Only.after ?_ (State.raise_only _ _ _ _) rfl
      | with_reducible refine Only.after ?_ (State.zonePi_only _ _) rfl)

theorem State.markStale_only (s : State) (z : ZoneNo) :
    Only { zones := true } s (s.markStale z) := by
  unfold State.markStale
  (repeat' split) <;>
    repeat (first
      | with_reducible exact Only.refl _ _
      | with_reducible refine Only.after ?_ (State.updZone_only _ _ _) rfl)

theorem State.zoneCure_only (s : State) (z : ZoneNo) :
    Only { zones := true } s (s.zoneCure z) := by
  unfold State.zoneCure
  (repeat' split) <;>
    repeat (first
      | with_reducible exact Only.refl _ _
      | with_reducible refine Only.after ?_ (State.updZone_only _ _ _) rfl)

theorem State.periodZone_only (s : State) (z : ZoneNo) :
    Only { zones := true, notices := true } s (s.periodZone z) := by
  unfold State.periodZone
  (repeat' split) <;>
    repeat (first
      | with_reducible exact Only.refl _ _
      | with_reducible refine Only.after ?_ (State.updZone_only _ _ _) rfl
      | with_reducible refine Only.after ?_ (State.zoneRegulate_only _ _) rfl
      | with_reducible refine Only.after ?_ (State.zoneCure_only _ _) rfl
      | with_reducible refine Only.after ?_ (State.zoneStale_only _ _) rfl
      | with_reducible refine Only.after ?_ (State.markStale_only _ _) rfl)

theorem State.makeBurst_only (s : State) :
    Only { line := true } s (s.makeBurst) := by
  unfold State.makeBurst
  (repeat' split) <;>
    (constructor <;> intro e <;> first | rfl | (simp at e))

theorem State.missSyncs_only (s : State) : Only { line := true } s s.missSyncs := by
  unfold State.missSyncs
  constructor <;> intro e <;> first | rfl | (simp at e)

theorem State.countDeparture_only (s : State) (b : Bool) :
    Only { periodCount := true, periodDue := true } s (s.countDeparture b) := by
  unfold State.countDeparture
  (repeat' split) <;>
    (constructor <;> intro e <;> first | rfl | (simp at e))

theorem State.applyLin_only (s : State) (i : Fin 2) (c : List Breakpoint) :
    Only { tables := true, zones := true } s (s.applyLin i c) := by
  unfold State.applyLin
  repeat (first
      | refine Only.after ?_ (Only.foldl (fun s x => State.reconvert_only s x) _ _) rfl
      | (constructor <;> intro e <;> first | rfl | (simp at e)))

theorem State.applyCrt_only (s : State) (i : Fin 4) (r : List Nat) :
    Only { tables := true } s (s.applyCrt i r) := by
  unfold State.applyCrt
  (constructor <;> intro e <;> first | rfl | (simp at e))

theorem State.applyZt_only (s : State) (z : ZoneNo) (e : ZtEntry) :
    Only { tables := true, zones := true } s (s.applyZt z e) := by
  unfold State.applyZt
  (repeat' split) <;>
    repeat (first
      | with_reducible refine Only.after ?_ (State.reconvert_only _ _) rfl
      | (constructor <;> intro e <;> first | rfl | (simp at e)))

theorem State.applyPt_only (s : State) (p : PressNo) (e : PtEntry) :
    Only { tables := true, zones := true } s (s.applyPt p e) := by
  unfold State.applyPt
  repeat (first
      | refine Only.after ?_ (Only.foldl (fun s x => State.updZone_only s x _) _ _) rfl
      | (constructor <;> intro e <;> first | rfl | (simp at e)))

theorem State.applySys_only (s : State) (y : Sys) :
    Only { tables := true, store := true, pace := true } s (s.applySys y) := by
  unfold State.applySys
  (repeat' split) <;>
    repeat (first
      | with_reducible refine Only.after ?_ (State.waive_only _) rfl
      | (constructor <;> intro e <;> first | rfl | (simp at e)))

theorem State.applyAcc_only (s : State) (i : Fin 4) (e : Option AccEntry) :
    Only { agent := true } s (s.applyAcc i e) := by
  unfold State.applyAcc
  (repeat' split) <;>
    (constructor <;> intro e <;> first | rfl | (simp at e))

theorem State.applyWrite_only (s : State) (w : Write) :
    Only { tables := true, targets := true, zones := true, weigh := true, store := true, pace := true,
           agent := true, notices := true } s (s.applyWrite w) := by
  unfold State.applyWrite
  (repeat' split) <;>
    repeat (first
      | with_reducible refine Only.after ?_ (State.applyCht_only _ _ _) rfl
      | with_reducible refine Only.after ?_ (State.applyLin_only _ _ _) rfl
      | with_reducible refine Only.after ?_ (State.applyCrt_only _ _ _) rfl
      | with_reducible refine Only.after ?_ (State.applyZt_only _ _ _) rfl
      | with_reducible refine Only.after ?_ (State.applyPt_only _ _ _) rfl
      | with_reducible refine Only.after ?_ (State.applySys_only _ _) rfl
      | with_reducible refine Only.after ?_ (State.applyAcc_only _ _ _) rfl
      | (constructor <;> intro e <;> first | rfl | (simp at e)))

theorem State.takeWrite_only (s : State) (w : Write) :
    Only { census := true, agent := true } s (s.takeWrite w) := by
  unfold State.takeWrite
  (repeat' split) <;>
    repeat (first
      | with_reducible exact Only.refl _ _
      | with_reducible refine Only.after ?_ (State.clearMarks_only _ _ _) rfl
      | with_reducible refine Only.after ?_ (State.censusTouch_only _) rfl)

theorem State.closeWith_only (s : State) (p : PressNo) (f : Frame) (e : ChargeEntry) :
    Only { line := true, zones := true, charges := true, presses := true, store := true, notices := true }
      s (s.closeWith p f e) := by
  unfold State.closeWith
  exact Only.after (Only.after (Only.after (Only.after (Only.after ((State.takeCharge_only _ _ _).widen rfl)
    (State.updPress_only _ _ _) rfl) (State.newCycleZones_only _ _) rfl) (State.pushDown_only _ _) rfl)
    (State.updPress_only _ _ _) rfl) (State.setPressState_only _ _ _) rfl

theorem State.closeReady_only (s : State) (p : PressNo) (f : Frame) :
    Only { line := true, zones := true, charges := true, presses := true, store := true, notices := true }
      s (s.closeReady p f) := by
  unfold State.closeReady
  (repeat' split) <;>
    repeat (first
      | with_reducible exact Only.refl _ _
      | with_reducible refine Only.after ?_ (State.refuse_only _ _ _) rfl
      | with_reducible refine Only.after ?_ (State.closeWith_only _ _ _ _) rfl)

theorem State.forwardOpen_only (s : State) (p : PressNo) (f : Frame) :
    Only { line := true, presses := true, notices := true } s (s.forwardOpen p f) := by
  unfold State.forwardOpen
  repeat (first
      | with_reducible exact Only.refl _ _
      | with_reducible refine Only.after ?_ (State.pushDown_only _ _) rfl
      | with_reducible refine Only.after ?_ (State.updPress_only _ _ _) rfl
      | with_reducible refine Only.after ?_ (State.setPressState_only _ _ _) rfl)

theorem State.overrideOpen_only (s : State) (p : PressNo) (f : Frame) :
    Only { line := true, presses := true, notices := true } s (s.overrideOpen p f) := by
  unfold State.overrideOpen
  repeat (first
      | with_reducible exact Only.refl _ _
      | with_reducible refine Only.after ?_ (State.updPress_only _ _ _) rfl
      | with_reducible refine Only.after ?_ (State.forwardOpen_only _ _ _) rfl)

theorem State.holdOpen_only (s : State) (p : PressNo) (f : Frame) :
    Only { presses := true, notices := true } s (s.holdOpen p f) := by
  unfold State.holdOpen
  (repeat' split) <;>
    repeat (first
      | with_reducible exact Only.refl _ _
      | with_reducible refine Only.after ?_ (State.count_only _ _) rfl
      | with_reducible refine Only.after ?_ (State.updPress_only _ _ _) rfl
      | with_reducible refine Only.after ?_ (State.raise_only _ _ _ _) rfl)

theorem State.openCuring_only (s : State) (p : PressNo) (f : Frame) :
    Only { line := true, presses := true, notices := true } s (s.openCuring p f) := by
  unfold State.openCuring
  (repeat' split) <;>
    repeat (first
      | with_reducible exact Only.refl _ _
      | with_reducible refine Only.after ?_ (State.overrideOpen_only _ _ _) rfl
      | with_reducible refine Only.after ?_ (State.holdOpen_only _ _ _) rfl)

theorem State.ejectOpened_only (s : State) (p : PressNo) (f : Frame) :
    Only { line := true, presses := true, notices := true } s (s.ejectOpened p f) := by
  unfold State.ejectOpened
  (repeat' split) <;>
    repeat (first
      | with_reducible exact Only.refl _ _
      | with_reducible refine Only.after ?_ (State.refuse_only _ _ _) rfl
      | with_reducible refine Only.after ?_ (State.startStroke_only _ _ _) rfl)

theorem State.ejectStuck_only (s : State) (p : PressNo) (f : Frame) :
    Only { line := true, presses := true, notices := true } s (s.ejectStuck p f) := by
  unfold State.ejectStuck
  (repeat' split) <;>
    repeat (first
      | with_reducible exact Only.refl _ _
      | with_reducible refine Only.after ?_ (State.refuse_only _ _ _) rfl
      | with_reducible refine Only.after ?_ (State.updCycle_only _ _ _) rfl
      | with_reducible refine Only.after ?_ (State.startStroke_only _ _ _) rfl)

theorem State.gateByState_only (s : State) (p : PressNo) (x : GateClass) (f : Frame) :
    Only { line := true, zones := true, charges := true, presses := true, store := true, notices := true }
      s (s.gateByState p x f) := by
  unfold State.gateByState
  (repeat' split) <;>
    repeat (first
      | with_reducible exact Only.refl _ _
      | with_reducible refine Only.after ?_ (State.pushDown_only _ _) rfl
      | with_reducible refine Only.after ?_ (State.closeReady_only _ _ _) rfl
      | with_reducible refine Only.after ?_ (State.refuse_only _ _ _) rfl
      | with_reducible refine Only.after ?_ (State.openCuring_only _ _ _) rfl
      | with_reducible refine Only.after ?_ (State.forwardOpen_only _ _ _) rfl
      | with_reducible refine Only.after ?_ (State.ejectOpened_only _ _ _) rfl
      | with_reducible refine Only.after ?_ (State.ejectStuck_only _ _ _) rfl)

theorem State.gateDecide_only (s : State) (p : PressNo) (x : GateClass) (f : Frame) :
    Only { line := true, zones := true, charges := true, presses := true, store := true, notices := true }
      s (s.gateDecide p x f) := by
  unfold State.gateDecide
  (repeat' split) <;>
    repeat (first
      | with_reducible exact Only.refl _ _
      | with_reducible refine Only.after ?_ (State.refuse_only _ _ _) rfl
      | with_reducible refine Only.after ?_ (State.gateByState_only _ _ _ _) rfl)

theorem State.presentCmd_only (s : State) (f : Frame) :
    Only { line := true, zones := true, charges := true, presses := true, store := true, notices := true }
      s (s.presentCmd f) := by
  unfold State.presentCmd
  (repeat' split) <;>
    repeat (first
      | with_reducible exact Only.refl _ _
      | with_reducible refine Only.after ?_ (State.pushDown_only _ _) rfl
      | with_reducible refine Only.after ?_ (State.refuse_only _ _ _) rfl
      | with_reducible refine Only.after ?_ (State.gateDecide_only _ _ _ _) rfl)

theorem State.grant1_only (s : State) (i : SlotNo) :
    Only { line := true, store := true } s (s.grant1 i) := by
  unfold State.grant1
  (repeat' split) <;>
    repeat (first
      | with_reducible exact Only.refl _ _
      | with_reducible refine Only.after ?_ (State.setSlot_only _ _ _) rfl
      | with_reducible refine Only.after ?_ (State.sendD_only _ _ _) rfl)

theorem State.grantLow_only (s : State) :
    Only { line := true, store := true } s (s.grantLow) := by
  unfold State.grantLow
  (repeat' split) <;>
    repeat (first
      | with_reducible exact Only.refl _ _
      | with_reducible refine Only.after ?_ (State.sendD_only _ _ _) rfl
      | with_reducible refine Only.after ?_ (State.grant1_only _ _) rfl)

theorem State.grantProbe_only (s : State) :
    Only { line := true, census := true, store := true } s (s.grantProbe) := by
  unfold State.grantProbe
  (repeat' split) <;>
    repeat (first
      | with_reducible refine Only.after ?_ (State.sendD_only _ _ _) rfl
      | with_reducible refine Only.after ?_ (State.grantLow_only _) rfl
      | (constructor <;> intro e <;> first | rfl | (simp at e)))

theorem State.grantPending_only (s : State) :
    Only { line := true, census := true, store := true } s (s.grantPending) := by
  unfold State.grantPending
  (repeat' split) <;>
    repeat (first
      | with_reducible refine Only.after ?_ (State.sendD_only _ _ _) rfl
      | with_reducible refine Only.after ?_ (State.grantProbe_only _) rfl
      | (constructor <;> intro e <;> first | rfl | (simp at e)))

theorem State.grantD_only (s : State) :
    Only { line := true, census := true, presses := true, store := true } s (s.grantD) := by
  unfold State.grantD
  (repeat' split) <;>
    repeat (first
      | with_reducible exact Only.refl _ _
      | with_reducible refine Only.after ?_ (State.updPress_only _ _ _) rfl
      | with_reducible refine Only.after ?_ (State.sendD_only _ _ _) rfl
      | with_reducible refine Only.after ?_ (State.grantPending_only _) rfl)

theorem State.grant0_only (s : State) (i : SlotNo) :
    Only { line := true, store := true, drain0 := true } s (s.grant0 i) := by
  unfold State.grant0
  (repeat' split) <;>
    repeat (first
      | with_reducible refine Only.after ?_ (State.setSlot_only _ _ _) rfl
      | with_reducible refine Only.after ?_ (State.sendU_only _ _ _) rfl
      | (constructor <;> intro e <;> first | rfl | (simp at e)))

theorem State.grantNote_only (s : State) (n : Notice) :
    Only { line := true, notices := true } s (s.grantNote n) := by
  unfold State.grantNote
  repeat (first
      | with_reducible exact Only.refl _ _
      | with_reducible refine Only.after ?_ (State.updNotices_only _ _) rfl
      | with_reducible refine Only.after ?_ (State.sendU_only _ _ _) rfl)

theorem State.grantRanked_only (s : State) :
    Only { line := true, store := true, drain0 := true, notices := true } s (s.grantRanked) := by
  unfold State.grantRanked
  (repeat' split) <;>
    repeat (first
      | with_reducible exact Only.refl _ _
      | with_reducible refine Only.after ?_ (State.sendU_only _ _ _) rfl
      | with_reducible refine Only.after ?_ (State.grantNote_only _ _) rfl
      | with_reducible refine Only.after ?_ (State.grant0_only _ _) rfl
      | with_reducible refine Only.after ?_ (State.setHold_only _ _) rfl
      | (constructor <;> intro e <;> first | rfl | (simp at e)))

theorem State.grantHeld_only (s : State) :
    Only { line := true, store := true, drain0 := true, notices := true } s (s.grantHeld) := by
  unfold State.grantHeld
  split
  · refine Only.ite (Only.after ((State.sendU_only _ _ _).widen rfl) (State.setHold_only _ _) rfl) ?_
    split
    · exact (State.grant0_only _ _).widen rfl
    · exact State.grantRanked_only _
  · exact (State.grant0_only _ _).widen rfl
  · exact State.grantRanked_only _

theorem State.grantYielded_only (s : State) :
    Only { line := true, store := true, drain0 := true, notices := true } s (s.grantYielded) := by
  unfold State.grantYielded
  split
  · exact (State.sendU_only _ _ _).widen rfl
  · exact Only.after ((State.grant0_only _ _).widen rfl) (State.setHold_only _ _) rfl
  · exact State.grantRanked_only _

theorem State.endIfDry_only (s : State) :
    Only { line := true, drain0 := true, notices := true } s (s.endIfDry) := by
  unfold State.endIfDry
  (repeat' split) <;>
    repeat (first
      | with_reducible exact Only.refl _ _
      | with_reducible refine Only.after ?_ (State.endRun_only _ _) rfl)

theorem State.grantU_only (s : State) :
    Only { line := true, store := true, drain0 := true, notices := true } s (s.grantU) := by
  unfold State.grantU
  have h := (State.endIfDry_only s).widen (d := { line := true, store := true, drain0 := true,
                                                  notices := true }) rfl
  split
  · exact h.trans (State.grantRanked_only _)
  · exact h.trans (State.grantHeld_only _)
  · exact h.trans (State.grantYielded_only _)

theorem State.kickD_only (s : State) :
    Only { line := true, census := true, presses := true, store := true } s (s.kickD) := by
  unfold State.kickD
  (repeat' split) <;>
    repeat (first
      | with_reducible exact Only.refl _ _
      | with_reducible refine Only.after ?_ (State.grantD_only _) rfl)

theorem State.kickU_only (s : State) :
    Only { line := true, store := true, drain0 := true, notices := true } s (s.kickU) := by
  unfold State.kickU
  (repeat' split) <;>
    repeat (first
      | with_reducible exact Only.refl _ _
      | with_reducible refine Only.after ?_ (State.grantU_only _) rfl)

theorem State.kick_only (s : State) :
    Only { line := true, census := true, presses := true, store := true, drain0 := true, notices := true }
      s (s.kick) := by
  unfold State.kick
  repeat (first
      | with_reducible exact Only.refl _ _
      | with_reducible refine Only.after ?_ (State.kickD_only _) rfl
      | with_reducible refine Only.after ?_ (State.kickU_only _) rfl)

end Sys2Proof.Machine
end

