-- ==== Sys2Proof/Tests/Slice0.lean ====
section
/-!
SUPPORT. The model's own tests. Part 1: ill-formed commands are refused by `wellFormed`. Part 2: worked examples
of the spec, each with its table. Part 3: for each statement with hypotheses, a concrete state and operands that
meet them, on the cell of 11 Table 96.
-/

set_option Elab.async false

namespace Sys2Proof.Tests

open Sys2Proof Sys2Proof.Machine

/-! ## Part 1: well-formedness -/

theorem test_frame_on_u_without_start_refused :
    (Instr.uInFrame [.data 1, .endDelim]).wellFormed = false := by decide

theorem test_frame_on_u_without_completion_refused :
    (Instr.uInFrame [.startDelim, .data 1]).wellFormed = false := by decide

theorem test_frame_on_d_with_second_start_refused :
    (Instr.dInFrame [.startDelim, .startDelim, .endDelim]).wellFormed = false := by decide

theorem test_frame_on_d_empty_refused : (Instr.dInFrame []).wellFormed = false := by decide

theorem test_write_of_61_bytes_refused :
    (Instr.tableWrite 0 0 0 0 (List.replicate 61 0)).wellFormed = false := by decide +kernel

theorem test_marked_write_of_61_bytes_refused :
    (Instr.tableWriteIfMarked 0 0 0 0 (List.replicate 61 0)).wellFormed = false := by decide +kernel

theorem test_whole_frame_well_formed :
    (Instr.dInFrame (frameSymbols [1, 2, 3, 0, 5, 6])).wellFormed = true := by decide

/-! ## Part 2: worked examples of the spec -/

/-- The characters "123456789". -/
def digits : List Byte := [0x31, 0x32, 0x33, 0x34, 0x35, 0x36, 0x37, 0x38, 0x39]

/-- R4: the nine characters yield 0x29B1. -/
theorem test_crc_of_digits : crc16 digits = 0x29B1#16 := by decide +kernel

/-- Table 28. -/
def curve0 : List Breakpoint :=
  [⟨2000, -200⟩, ⟨4500, 200⟩, ⟨7000, 700⟩, ⟨9500, 1100⟩, ⟨12000, 1500⟩, ⟨14000, 1800⟩, ⟨16000, 2100⟩,
    ⟨18500, 2450⟩, ⟨21000, 2800⟩, ⟨24000, 3150⟩, ⟨27000, 3450⟩, ⟨30500, 3750⟩, ⟨34000, 3950⟩]

/-- Table 29, cases A, C, D and E. -/
theorem test_conversion_cases :
    convert curve0 (-15) 13333 = (some 1685, .none) ∧ convert curve0 0 12010 = (some 1502, .none) ∧
      convert curve0 (-15) 1500 = (some (-215), .under) ∧ convert curve0 80 40000 = (some 4000, .over) := by
  decide +kernel

/-- Table 31. -/
def rates1 : List Nat :=
  [2, 4, 6, 9, 13, 18, 25, 34, 45, 58, 74, 92, 112, 135, 160, 188, 215, 240, 300, 330, 360, 380, 395, 400]

/-- Table 32: the increments of its five periods. -/
theorem test_cure_increments :
    [790, 805, 1949, 1950, 2003, 1685, 1702, 1300].map (cureIncrement rates1) =
      [0, 2, 399, 400, 400, 282, 301, 74] := by decide +kernel

/-- Table 33. -/
theorem test_cure_permille :
    curePermille [1250000, 1300450] 1200000 = 1041 ∧ curePermille [657] 1200000 = 0 ∧
      curePermille [16777215] 200 = 65535 := by decide +kernel

/-- 11 Table 96, recipe 3, with the envelope of Table 74. -/
def recipe3 : Recipe :=
  { setpoints := [1700, 1700, 0, 0, 0, 0], kp := 40, ki := 12, ceiling := 800, target := 8480, tolLow := 20,
    tolHigh := 30, outTime := 900, cureTable := 1, threshold := 1200000, dwell := 300, openHold := 60,
    segMax := [3000, 3000, 2500, 2000, 1500, 1500, 1000, 1000], segLen := 200, peakLimit := 4000,
    debounce := 2, retries := 1, overrideOk := false }

/-- Table 39, cases A to E. -/
theorem test_pi_cases :
    piStep recipe3 1700 1685 25600 = (439, 25780) ∧ piStep recipe3 1700 1720 25780 = (349, 25540) ∧
      piStep recipe3 1700 1500 40000 = (800, 40000) ∧ piStep recipe3 1700 1900 25540 = (0, 25540) ∧
      piStep recipe3 1700 400 0 = (800, 0) := by decide +kernel

/-- The weigh settings of 11 Table 96. -/
def sys96 : Sys :=
  { Sys.reset with weighZero := 2048, weighGain := 5000, recorder := 25 }

/-- Table 47, rows 1 to 3 and 7. -/
theorem test_weight_conversion :
    weightOf sys96 9000 = 8486 ∧ weightOf sys96 9001 = 8488 ∧ weightOf sys96 2000 = 0 ∧
      weightOf { sys96 with weighZero := 0, weighGain := 65535 } 65535 = 60000 := by decide +kernel

/-- The outcomes of frames 1 to n of the worked burst: odd frames to 15 are bad (01 section 1.7). -/
def burst : Nat → State → State
  | 0, s => s
  | n + 1, s => if (n + 1) % 2 = 1 ∧ n + 1 ≤ 15 then (burst n s).lossBad else (burst n s).lossGood

/-- D_OK with 16 good outcomes. -/
def allGood : State :=
  { State.reset with loss :=
    { lost := false, silence := false, burst := false, window := List.replicate 16 true, goodRun := 4,
      timer := none } }

/-- Table 15: bad outcomes, good run and state after frames 14, 15, 18 and 19. -/
theorem test_error_burst :
    [14, 15, 18, 19].map (fun n => (badCount (burst n allGood).loss.window, (burst n allGood).loss.goodRun,
      (burst n allGood).loss.lost)) = [(7, 1, false), (8, 0, true), (7, 3, true), (0, 4, false)] := by
  decide +kernel

/-! ### The cell of 11 Table 96 -/

/-- Its channel table. -/
def cht96 : Vector ChtEntry 64 :=
  (((((Vector.replicate 64 ChtEntry.reset).set 0 ⟨12, 0, .zoneTc, 0, 20⟩).set 1 ⟨12, 1, .zoneTc, 1, 20⟩).set 2
    ⟨20, 3, .platen, 0, 10⟩).set 3 ⟨20, 4, .ejectPos, 0, 10⟩).set 4 ⟨21, 0, .ejectForce, 0, 10⟩ |>.set 5
    ⟨30, 0, .weigh, 0, 5⟩

/-- Its press 0. -/
def pt0 : PtEntry :=
  { zones := [0, 1], closedAt := 1000, openAt := 50000, outAt := 40000, homeAt := 2000, ejector := 21,
    haltCode := 90, marker := 22, guardUsed := true, closeMs := 8000, openMs := 10000, ejectMs := 5000 }

/-- Its tables. -/
def tables96 : Tables :=
  { cht := cht96, lin := Tables.reset.lin.set 0 curve0, crt := Tables.reset.crt.set 1 rates1,
    zt := (Tables.reset.zt.set 0 ⟨0, -15, 40, 0, 300, 2⟩).set 1 ⟨0, -15, 40, 1, 300, 2⟩,
    rt := Tables.reset.rt.set 3 recipe3, pt := Tables.reset.pt.set 0 pt0,
    gt := ((Tables.reset.gt.set 0 ⟨20, 1, .close, 0⟩).set 1 ⟨20, 2, .open, 0⟩).set 2 ⟨21, 5, .eject, 0⟩,
    sys := sys96 }

/-- The cell as loaded, in CONFIG. -/
def cell : State := { State.reset with tables := tables96 }

/-- 11.1: the census builds the expected list 12, 20, 21, 22, 25, 30 and 40. -/
theorem test_expected_list : cell.tables.expectedNodes = [12, 20, 21, 22, 25, 30, 40] := by decide +kernel

/-- R26 and R98: a role or class code beyond the list is none, and its write is refused. -/
theorem test_unknown_codes_refused :
    Role.ofCode 6 = Option.none ∧ GateClass.ofCode 4 = Option.none ∧
      cell.checkWrite 0 9 [12, 5, 6, 0, 10] = .refuse .badArg := by decide +kernel

/-- Press 0 as PRESS ASSIGN leaves it. -/
def ready0 : Press := { Press.reset with state := .ready, recipe := some 3 }

/-- The cell in RUN with SYNC and D-line good, GD0 closed, and press 0 READY with its zones regulated. -/
def cellRun : State :=
  { cell with
    mode := .run, now := 1120000, sync := { lost := false, timer := none }, loss := allGood.loss,
    guard := cell.guard.set 0 { accepted := .closed, run := 0, due := false },
    presses := cell.presses.set 0 ready0,
    zones := (cell.zones.set 0 { ZoneRecord.reset with state := .regulating }).set 1
      { ZoneRecord.reset with state := .regulating } }

/-- Charge 58 as accepted at 1,000,000 (11 Table 97). -/
def charge58 : ChargeEntry :=
  { number := 58, recipe := 3, weight := 8486, dev := 6, accepted := 1000000, expiry := 1900000, slot := 9 }

/-- The cell with charge 58 queued. -/
def cellCharged : State :=
  { cellRun with charges := [charge58],
                 store := { cellRun.store with slots := cellRun.store.slots.set 9 (.reserved (.charge 58)) } }

/-- A CMD to a node. -/
def cmd (node : Addr) (payload : List Byte) : Frame :=
  { dst := addrByte node, src := 0, kind := kindCmd, payload := payload, crc := 0 }

/-- The cycle record of charge 58 after CLOSE (11.2). -/
def cycle58 : CycleRecord :=
  { zoneCount := 2, chargeNo := 58, weight := 8486, dev := 6, age := 120, cureTime := none, serial := none,
    retries := 0, guardOpened := false, closeTimeout := false, openTimeout := false, lineLoss := false }

/-- 11 Table 97: the CLOSE at 1,120,000 takes charge 58, age 120 s, and its slot, and starts the close timer. -/
theorem test_close_takes_charge :
    let s := cellCharged.presentCmd (cmd 20 [1])
    s.charges = [] ∧ s.presses[(0 : PressNo)].state = .closing ∧ s.presses[(0 : PressNo)].cycle = some cycle58 ∧
      s.presses[(0 : PressNo)].slot = some 9 ∧
      s.presses[(0 : PressNo)].closeT = some { start := 1120000, dur := 8000 } := by decide +kernel

/-- Press 0 in a state of its cycle, with charge 58 and slot 9. -/
def inCycle (st : PressState) : State :=
  { cellRun with
    presses := cellRun.presses.set 0 { ready0 with state := st, slot := some 9, cycle := some cycle58 },
    store := { cellRun.store with slots := cellRun.store.slots.set 9 (.reserved (.press 0)) } }

/-- The same with a change to press 0. -/
def inCycleWith (st : PressState) (f : Press → Press) : State := (inCycle st).updPress 0 f

/-- A timer that has run out at 1,120,000. -/
def ranOut : Option Timer := some { start := 1110000, dur := 10000 }

/-- A stroke begun 450 ms ago with one reading above its segment (Table 75, at 600,450). -/
def stroke450 : State :=
  inCycleWith .ejecting (fun q => { q with stroke := 1, ejectStart := some 1119550, debounce := 1, peak := 3200,
                                           peakSeg := some 0, peakStroke := some 1 })

/-- Table 75, 600,450: force 2,900 in segment 2 is the second above its maximum: STUCK with cause FORCE. -/
theorem test_overforce :
    let q := (stroke450.forceReading 0 2900).presses[(0 : PressNo)]
    q.state = .stuck ∧ q.stuckCause = some .force ∧ q.peak = 3200 := by decide +kernel

/-- Table 75, 600,450: the halt is READY, a CMD to node 21 with code 90 and flags 0. -/
theorem test_halt_frame :
    (stroke450.forceReading 0 2900).presses[(0 : PressNo)].halt =
      .ready (buildFrame 48 21 kindCmd [90, 0]) := by decide +kernel

/-- 11.5 and 11.6: position 1,850 in UNLOADING ends the cycle GOOD, in the slot the press held. -/
theorem test_home_stores_good :
    let s := (inCycle .unloading).posReading 0 1850
    s.presses[(0 : PressNo)].state = .ready ∧
      (s.store.slots[(9 : SlotNo)].record?).map (fun r => (r.disposition, r.chargeNo, r.press)) =
        some (.good, 58, some 0) := by decide +kernel

/-- Record 61 (Table 101). -/
def record61 : Record :=
  { number := 61, kind := .part, press := some 0, recipe := 3, zoneCount := 2, serial := some 1007, chargeNo := 58,
    weight := 8486, dev := 6, age := some 120, cureTime := some 425, permille := 1000, peak := 3200, retries := 1,
    disposition := .good, flags := .clear,
    zones := [⟨0, false, false, false, false, some 1685, some 1685⟩,
      ⟨1, false, false, false, false, some 1687, some 1687⟩] }

/-- 12.4: its 40 bytes. -/
theorem test_record_61_bytes :
    recordBytes record61 =
      [0, 0, 0, 61, 0, 0, 3, 2, 0, 0, 3, 0xEF, 0, 58, 0x21, 0x26, 0, 6, 0, 120, 1, 0xA9, 3, 0xE8, 0x0C, 0x80, 0x10,
        0x01, 0, 0, 6, 0x95, 6, 0x95, 1, 0, 6, 0x97, 6, 0x97] := by decide +kernel

/-- Table 41, P4 and P6: a third stale period goes to FALLBACK 300; a fresh one recovers. -/
theorem test_stale_run :
    let z : ZoneRecord := { ZoneRecord.reset with state := .holding, integ := 25780, lastDuty := 439,
                                                  staleCount := 2, preset := 439 }
    let a := (((inCycle .curing).updZone 0 (fun _ => z)).periodZone 0).zones[(0 : ZoneNo)]
    let b := ((((inCycle .curing).updZone 0 (fun _ => { a with temp := some 1690, staleCount := 4 })).setTarget 0
      (.fresh 0 0 0)).periodZone 0).zones[(0 : ZoneNo)]
    (a.state, a.staleCount, a.preset, a.integ) = (.fallback, 3, 300, 25780) ∧
      (b.state, b.staleCount, b.preset, b.integ) = (.regulating, 0, 429, 25900) := by decide +kernel

/-- The store of 11 Table 102: records 52 to 61 in slots 0 to 9, all delivered on channel 1. -/
def store102 : Store :=
  { Store.reset with slots := (List.range 10).foldl (fun v k => v.set! k (.stored
      { chargeRecord 0 0 0 0 .expired with number := BitVec.ofNat 32 (52 + k) }
      { delivered0 := decide (k < 4), owed1 := true, delivered1 := true, released := false })) Store.reset.slots }

/-- 11.7 and Table 102: RELEASE 55 answers effective number 55 and freed count 4, and leaves 6 stored. -/
theorem test_release_55 :
    let x := ({ cell with store := store102 } : State).doRelease 55
    x.2 = .short .ok [1, 0, 0, 0, 55, 4] ∧ x.1.store.countSlots Slot.isStored = 6 := by decide +kernel

/-- 11.7: DRAIN START in BLOCK mode with count field 3 means 4 records. -/
theorem test_drain_start_count :
    (({ cell with store := store102 } : State).doDrainStart 0 2 3).1.drain0.remaining = 4 := by decide +kernel

/-- 11.7: RELEASE 70 is clamped to 61 and frees all ten. -/
theorem test_release_70 :
    (({ cell with store := store102 } : State).doRelease 70).2 = .short .ok [1, 0, 0, 0, 61, 10] := by
  decide +kernel

/-! ## Part 3: witnesses. Each names the statement whose hypotheses it meets, clause by clause. -/

/-- RSTn low. -/
def low : State := { cell with rstn := false }

theorem witness_StepTakesFrontCommand :
    ({ cell with pending := [.resetAssert] } : State).pending = .resetAssert :: [] := rfl

theorem witness_IdleStepQueuesWhatIsDue :
    (low.pending = [] ∧ low.rstn = false) ∧
      (let s : State := { cellRun with periodDue := true }
       s.pending = [] ∧ s.rstn = true ∧ s.dueNow ≠ []) ∧
      (cellRun.pending = [] ∧ cellRun.rstn = true ∧ cellRun.dueNow = []) := by decide +kernel

/-- A ready long read, and a WEIGH target above its age. -/
theorem witness_IdleStepQueuesWhatIsDue_events :
    (let c : Context := { tag := 1, op := 22, what := .record 61, part := 0, wait := 0 }
     let s : State := { cell with agent := { cell.agent with contexts := cell.agent.contexts.set 0 (some c) } }
     [Instr.longReadPart] ∈ s.dueNow) ∧
      (let s := cellRun.setTarget weighTarget (.fresh 9000 0 50)
       [.targetAgeExpiry weighTarget, .weighSignalCheck] ∈ s.dueMillisecond) := by decide +kernel

theorem witness_PowerOnAndReset : low.rstn = false ∧ low.pending = [] := by decide +kernel

theorem witness_ReceivedFramesAreChecked :
    cell.rstn = true ∧ cell.line.uChk.collecting = false ∧ cell.line.dChk.collecting = false := by
  decide +kernel

/-- A frame with the longest payload (R5). -/
def longest : Frame := buildFrame 3 4 kindHist (List.replicate 64 7)

theorem built_crc (a b : Addr) (k : Byte) (p : List Byte) :
    (buildFrame a b k p).crc = crc16 (buildFrame a b k p).body := by simp only [buildFrame, Frame.body]

theorem witness_SentFramesAreReadBack : longest.sound ∧ cell.rstn = true :=
  ⟨⟨by decide, built_crc 3 4 kindHist (List.replicate 64 7)⟩, rfl⟩

/-- A frame of no matter. -/
def plain : Frame := { dst := 3, src := 4, kind := kindHist, payload := [], crc := 0 }

theorem witness_RowsAreTheirRequestFrames :
    requestOf (.tableWrite 5 9 3 15 (List.replicate 60 1)) =
        some (5, 9, 7, 3 :: 15 :: List.replicate 60 1) ∧
      (Instr.tableWrite 5 9 3 15 (List.replicate 60 1)).wellFormed = true ∧ cell.rstn = true ∧
      cell.line.uChk = Checker.reset := by decide +kernel

/-- A frame to an address of a kind. -/
def frameTo (dst : Addr) (kind : Byte) : Frame := buildFrame 5 dst kind []

theorem witness_GoodFrameOnU :
    cell.own = 48 ∧ (frameTo 48 kindMreq).dstAddr = 48 ∧ (frameTo 48 kindSync).dstAddr = 48 ∧
      (frameTo 48 kindNote).kind ≠ kindMreq ∧ (frameTo 48 kindNote).kind ≠ kindSync ∧
      (frameTo 63 kindSync).dstAddr ≠ 48 ∧ (frameTo 47 kindCmd).dstAddr ≠ 48 ∧
      (frameTo 47 kindDuty).kind ≠ kindSync ∧ (frameTo 47 kindDuty).kind ≠ kindCmd := by decide +kernel

/-- Traffic in the DOWN buffer. -/
def plainItem : DownItem := { frame := plain, strokeOf := none, awaitedBy := none, uncounted := false }

theorem witness_GoodFrameOnU_overrun :
    (2 : Fin 12) ≠ 11 ∧ (5 : Fin 12) ≠ 11 ∧
      8 ≤ ({ cell.line with down := List.replicate 8 plainItem } : Line).down.length := by decide

/-- The census with the window of node 12 open at 1,000, its last or not. -/
def window12 (rest : List Addr) (start : Time) : State :=
  { cell with now := 1000, census := { Census.reset with
      state := .running, phase := .window { start := start, dur := 5 }, todo := 12 :: rest, expected := 7 } }

theorem witness_GoodFrameOnD :
    (let f := frameTo 48 kindMreq
     f.dstAddr = cell.own ∧ f.kind = kindMreq) ∧
      (let f := buildFrame 12 48 kindCens []
       ¬(f.dstAddr = cell.own ∧ f.kind = kindMreq) ∧ f.kind = kindCens ∧
         (window12 [] 998).census.todo.head? = some f.srcAddr) ∧
      (window12 [] 998).census.phase = .window { start := 998, dur := 5 } ∧
      ((frameTo 0 kindSamp).kind = kindSamp ∧ (frameTo 0 kindSync).kind ≠ kindSamp ∧
        (frameTo 0 kindSync).kind ≠ kindCens) ∧
      cell.line.up.length < 8 ∧
      8 ≤ ({ cell with line := { cell.line with up := List.replicate 8 plain } } : State).line.up.length := by
  decide +kernel

/-- A notice queue of 16 different notices. -/
def fullQueue : List Notice :=
  (List.range 16).map (fun n => newNotice 0 .pressState n 0)

/-- The cell with some notices. -/
def noticed (q : List Notice) (mask : BitVec 24) : State :=
  { cell with notices := { NoticeUnit.reset with queue := q, mask := mask } }

theorem witness_NoticesAndCounters :
    (let it := newNotice cell.now .overrun 1 0
     (noticed [] 0).notices.enabled .overrun = false ∧
       ((noticed [it] 16).notices.enabled .overrun = true ∧
         (noticed [it] 16).notices.queue.any (fun x => x.same it) = true) ∧
       ((noticed [] 16).notices.queue.any (fun x => x.same it) = false ∧
         (noticed (fullQueue.take 15) 16).notices.queue.length < 16) ∧
       ((noticed fullQueue 16).notices.queue.any (fun x => x.same it) = false ∧
         16 ≤ (noticed fullQueue 16).notices.queue.length ∧ (noticed fullQueue 16).notices.atHalf 11 = false)) ∧
      cell.notices.atHalf 0 = false ∧
      ({ cell.notices with counters := cell.notices.counters.set 0 127 } : NoticeUnit).atHalf 0 = true := by
  decide +kernel

theorem witness_NoticesAndCounters_merge :
    let it := newNotice 0 .overrun 1 0
    (noticed [it] 16).notices.queue = [] ++ it :: [] ∧ (noticed [it] 16).notices.enabled .overrun = true ∧
      it.kind = .overrun ∧ it.subject = BitVec.ofNat 8 1 ∧ it.detail = BitVec.ofNat 16 0 ∧
      ({ cell.notices with counters := cell.notices.counters.set 11 127 } : NoticeUnit).atHalf 11 = true := by
  decide +kernel

/-- The cell with another line. -/
def lined (f : Line → Line) : State := { cellRun with line := f cellRun.line }

/-- A stored record owed to channel 1 and delivered on neither channel, in slot 3. -/
def owed3 : Store :=
  { Store.reset with slots := Store.reset.slots.set 3 (.stored (chargeRecord 7 3 8000 0 .rejectUnder)
      { delivered0 := false, owed1 := true, delivered1 := false, released := false }) }

/-- The cell with that record and a channel 0 run. -/
def draining (mode : DrainMode) (n : Nat) : State :=
  { cellRun with store := owed3,
                 drain0 := { running := true, mode := some mode, dest := some 5, remaining := n, delivered := 0 } }

/-- A frame in the DOWN buffer. -/
def item (k : Byte) : DownItem := { frame := frameTo 7 k, strokeOf := none, awaitedBy := none, uncounted := false }

/-- Press 0 with a halt. -/
def halting (h : Halt) : State := cellRun.updPress 0 (fun q => { q with halt := h })

theorem witness_DOutRanks :
    (lined (fun l => { l with dOut := some { frame := plain, source := .down } })).line.dOut ≠ none ∧
      ((halting (.ready plain)).line.dOut = none ∧
        (halting (.ready plain)).presses[(0 : PressNo)].halt = .ready plain) ∧
      (let s := lined (fun l => { l with burst := [plain] })
       s.readyD .halt = false ∧ s.line.burst = plain :: []) ∧
      (let s := lined (fun l => { l with release := [{ press := 0, kind := .label, frame := plain }] })
       s.readyD .halt = false ∧ s.line.burst = [] ∧ s.line.release ≠ []) ∧
      (let s : State := { cell with census := { Census.reset with phase := .pending, todo := [12] } }
       s.readyD .halt = false ∧ s.line.burst = [] ∧ s.line.release = [] ∧ s.census.phase = .pending) ∧
      (let s := lined (fun l => { l with down := [item kindCmd] })
       s.readyD .halt = false ∧ s.line.burst = [] ∧ s.line.release = [] ∧ s.readyD .probe = false) ∧
      (let s : State := { cellRun with store := owed3 }
       s.readyD .halt = false ∧ s.readyD .probe = false ∧ s.line.down = [] ∧ s.tables.sys.recorder ≠ 0 ∧
         s.pace = none ∧ s.store.next1 = some 3) := by decide +kernel

theorem witness_UOutGrants :
    ({ cellRun with drain0 := { running := true, mode := some .step, dest := some 5, remaining := 1,
                                delivered := 0 } } : State).runDry = true ∧
      (let s := lined (fun l => { l with up := [plain] })
       s.line.uOut = none ∧ s.runDry = false ∧ s.line.hold = .off ∧ s.line.up = plain :: []) ∧
      (cell.answered plain).agent.responses = plain :: [] ∧ (noticed fullQueue 0).notices.queue ≠ [] ∧
      (let s := draining .block 4
       s.line.uOut = none ∧ s.runDry = false ∧ s.ready0 = some 3 ∧ s.drain0.dest = some 5) ∧
      (let s : State := { draining .block 4 with line := { cell.line with
         hold := .held, up := List.replicate 6 plain } }
       s.line.uOut = none ∧ s.runDry = false ∧ s.line.hold = .held ∧ 6 ≤ s.line.up.length) ∧
      (let s : State := { draining .block 4 with line := { cell.line with
         hold := .held, up := List.replicate 5 plain } }
       s.line.up.length < 6 ∧ s.readyU .drain0 = true) ∧
      (let s : State := { draining .block 4 with line := { cell.line with hold := .yielded } }
       s.line.hold = .yielded ∧ s.line.up = [] ∧ s.readyU .drain0 = true) := by decide +kernel

/-- The hold in force or yielded, with channel 0's next record in slot 3. -/
theorem witness_UOutGrants_held :
    let s (h : DrainHold) (n : Nat) : State :=
      { draining .block 4 with line := { cell.line with hold := h, up := List.replicate n plain } }
    (s .held 5).ready0 = some 3 ∧ (s .held 5).line.up.length < 6 ∧ (s .yielded 0).ready0 = some 3 ∧
      (s .yielded 0).line.up = [] ∧ (s .held 5).runDry = false ∧ (s .held 5).drain0.dest = some 5 ∧
      ((s .held 5).store.slots[(3 : SlotNo)].record?).isSome = true := by decide +kernel

theorem witness_OutHalvesServeReadySources : cell.Served ∧ ∃ t, step cell = .next t :=
  ⟨⟨fun _ _ => by decide +kernel, fun _ _ => by decide +kernel, fun h => absurd h (by decide)⟩, _, rfl⟩

/-- D-out sending a frame of a source. -/
def sendingD (x : DSource) (s : State) : State :=
  { s with line := { s.line with dOut := some { frame := plain, source := x } } }

/-- U-out sending a frame of a source. -/
def sendingU (x : USource) (s : State) : State :=
  { s with line := { s.line with uOut := some { frame := plain, source := x } } }

/-- The head of the DOWN buffer is an item, with D-out sending it. -/
def sendingItem (d : DownItem) (s : State) : State :=
  sendingD .down { s with line := { s.line with down := [d] } }

theorem witness_TransmissionEnds :
    (sendingU .up cell).rstn = true ∧
      ((sendingU .drain0 (draining .step 0)).drain0.running = true ∧ (draining .step 0).drain0.remaining = 0) ∧
      (draining .step 1).drain0.remaining ≠ 0 ∧
      (sendingD .probe { cell with census := { Census.reset with phase := .sending } }).census.phase = .sending ∧
      (sendingD .probe cell).census.phase ≠ .sending ∧
      (item kindCmd).frame.kind ≠ kindSync ∧
      (halting (.waiting plain)).presses[(0 : PressNo)].halt = .waiting plain ∧
      (sendingD .drain1 { cell with store := owed3 }).store.next1.isSome = true ∧
      (sendingD .drain1 cell).store.next1 = none ∧
      (let s := sendingItem (item kindSync) cellRun
       s.rstn = true ∧ s.periodDue = false ∧ s.line.dOut = some { frame := plain, source := .down } ∧
         s.line.down = item kindSync :: [] ∧ (item kindSync).frame.kind = kindSync ∧
         (item kindSync).awaitedBy = none ∧ s.mode = .run ∧ s.sync.lost = false ∧ (item kindSync).uncounted = false ∧
         s.periodCount + 1 ≠ s.tables.sys.ctrldiv ∧ 9 + 1 = s.tables.sys.ctrldiv) ∧
      (cell.mode = .config ∧ cell.sync.lost = true) := by decide +kernel

/-- A tagged head whose halt is gone, and a SYNC that departs with a control period due. -/
theorem witness_TransmissionEnds_rare :
    let d : DownItem := { item kindCmd with awaitedBy := some 0 }
    d.frame.kind ≠ kindSync ∧ cellRun.presses[(0 : PressNo)].halt = .none ∧
      (let s := sendingItem (item kindSync) { cellRun with periodDue := true }
       s.rstn = true ∧ s.periodDue = true ∧ s.line.down = item kindSync :: [] ∧ s.mode = .run) := by
  decide +kernel

/-- A SYNC that waited through a SYNC loss, at the head of the buffer and being sent. -/
def missed : State := sendingItem { item kindSync with uncounted := true } { cellRun with periodCount := 4 }

theorem witness_TransmissionEnds_uncounted :
    missed.rstn = true ∧ missed.mode = .run ∧ missed.sync.lost = false ∧
      missed.line.down.map (fun d => (d.frame.kind, d.uncounted)) = [(kindSync, true)] := by decide +kernel

/-- R59: its departure leaves the count as it stands and builds the burst; that of one that came later counts. -/
theorem test_missed_sync_is_uncounted :
    missed.downSent.periodCount = 4 ∧ missed.downSent.line.burst = missed.buildBurst ∧
      (sendingItem (item kindSync) { cellRun with periodCount := 4 }).downSent.periodCount = 5 := by decide +kernel

/-- The cell in RUN with the sync timer at a start. -/
def syncing (start : Time) : State :=
  { cellRun with sync := { lost := false, timer := some { start := start, dur := 100 } } }

theorem witness_SyncWatch :
    ((syncing 1119901).rstn = true ∧ timerDue 1120000 (syncing 1119901).sync.timer = false) ∧
      (timerDue 1120000 (syncing 1119900).sync.timer = true ∧ (syncing 1119900).periodDue = false) ∧
      ({ syncing 1119900 with periodDue := true } : State).periodDue = true ∧
      (let s : State := { syncing 1119900 with
         now := 1120000, line := { cellRun.line with down := [item kindSync, item kindCmd] } }
       s.syncTimeout.line.down.map (·.uncounted) = [true, false] ∧ s.syncTimeout.sync.lost = true) ∧
      ((inCycle .curing).presses[(0 : PressNo)].state = .curing ∧
        (1 : ZoneNo) ∈ (inCycle .curing).tables.pt[(0 : PressNo)].zones) := by decide +kernel

/-- The loss watch with n bad outcomes held. -/
def bads (n : Nat) (lost : Bool) : State :=
  { inCycle .ejecting with loss :=
    { lost := lost, silence := false, burst := lost, window := List.replicate n false, goodRun := 3,
      timer := some { start := 1119980, dur := 20 } } }

theorem witness_LossWatch :
    ((((bads 6 false).loss.window ++ [false]).rtake 16).filter (fun b => !b)).length < 8 ∧
      8 ≤ ((((bads 7 false).loss.window ++ [false]).rtake 16).filter (fun b => !b)).length ∧
      ((bads 7 true).loss.lost = true ∧ (bads 7 false).loss.lost = false) ∧
      ((bads 7 true).rstn = true ∧ timerDue (bads 7 true).now (bads 7 true).loss.timer = true ∧
        timerDue cellRun.now cellRun.loss.timer = false) ∧
      min 4 ((bads 7 true).loss.goodRun + 1) = 4 := by decide +kernel

/-- The cell with requester 0 and its census in a state. -/
def counting (m : Mode) (c : CensusState) : State :=
  { cell with mode := m, census := { Census.reset with state := c } }

/-- Requester 0 is served, with level WRITE (the agent of the cell and of every state built on it). -/
theorem witness_serves : cell.serves 0 0 true = true ∧ cell.serves 0 0 false = true ∧
    cellRun.serves 0 0 true = true ∧ (inCycle .curing).serves 0 0 true = true := by decide +kernel

theorem witness_CensusStart :
    ((counting .run .idle).serves 0 0 true = true ∧ (counting .run .idle).mode = .run) ∧
      ((counting .config .running).serves 0 0 true = true ∧ (counting .config .running).census.state = .running) ∧
      (cell.serves 0 0 true = true ∧ cell.mode = .config ∧ cell.census.state ≠ .running) := by decide +kernel

theorem witness_CensusWindow :
    ((window12 [] 996).rstn = true ∧ (window12 [] 996).census.todo = 12 :: [] ∧
        (window12 [] 996).windowDue = false) ∧
      (window12 [] 995).windowDue = true ∧ (window12 [20] 995).windowDue = true ∧
      ((window12 [] 995).census.missing = [] ∧ (window12 [] 995).census.dirty = false ∧
        (window12 [] 995).censusTouch.census.dirty = true) := by decide +kernel

theorem witness_PassLatchSetOnlyByCensus :
    ∃ t, exec (.censusStart 0 1) State.reset = .next t ∧ State.reset.census.passLatch = false ∧
      t.census.passLatch = true := ⟨_, rfl, rfl, by decide +kernel⟩

/-- The request frame of CENSUS START, with no node address in any table. -/
theorem witness_PassLatchSetOnlyByCensus_frame :
    let start := Instr.uInFrame (frameSymbols (buildFrame 0 State.reset.own kindMreq [1, 12]).bytes)
    ∃ t, exec start State.reset = .next t ∧ State.reset.census.passLatch = false ∧
      t.census.passLatch = true := ⟨_, rfl, rfl, by decide +kernel⟩

/-- A gated command of the cell of 11 Table 96 for press 0. -/
theorem gated_close (s : State) (h : s.mode = .run) (a : s.presses[(0 : PressNo)].state ≠ .idle)
    (e : s.tables = tables96) : Gated s (cmd 20 [1]) .close 0 :=
  ⟨h, a, by decide, 1, [], 0, rfl, by rw [e]; decide +kernel, by rw [e]; decide +kernel,
    by rw [e]; decide +kernel⟩

theorem gated_open (s : State) (h : s.mode = .run) (a : s.presses[(0 : PressNo)].state ≠ .idle)
    (e : s.tables = tables96) (x : List Byte) : Gated s (cmd 20 (2 :: x)) .open 0 :=
  ⟨h, a, by show ((addrByte 20).setWidth 6 : BitVec 6) ≠ 63; decide, 2, x, 1, rfl,
    by rw [e]; show tables96.gateEntry ((addrByte 20).setWidth 6) 2 = some 1; decide +kernel,
    by rw [e]; decide +kernel, by rw [e]; decide +kernel⟩

theorem gated_eject (s : State) (h : s.mode = .run) (a : s.presses[(0 : PressNo)].state ≠ .idle)
    (e : s.tables = tables96) : Gated s (cmd 21 [5]) .eject 0 :=
  ⟨h, a, by decide, 5, [], 2, rfl, by rw [e]; decide +kernel, by rw [e]; decide +kernel,
    by rw [e]; decide +kernel⟩

/-- The guard of press 0 open. -/
def guardOpen (s : State) : State :=
  { s with guard := s.guard.set 0 { accepted := .open, run := 0, due := false } }

theorem witness_GateLookupAndRefusals :
    Gated cellCharged (cmd 20 [1]) .close 0 ∧ Gated (inCycle .curing) (cmd 20 [1]) .close 0 ∧
      Gated (inCycle .closing) (cmd 20 [2]) .open 0 ∧ Gated (inCycle .curing) (cmd 21 [5]) .eject 0 ∧
      Gated (guardOpen (inCycle .stuck)) (cmd 21 [5]) .eject 0 ∧
      (guardOpen (inCycle .stuck)).guardIsOpen 0 ∧ (guardOpen cellCharged).guardIsOpen 0 ∧
      ¬cellCharged.guardIsOpen 0 ∧ (inCycle .stuck).carries 0 9 cycle58 3 = true ∧
      (∀ e ∈ cellRun.charges, cellRun.presses[(0 : PressNo)].recipe ≠ some e.recipe) ∧
      (cellCharged.tables.gt[(0 : Fin 16)].cls ≠ .none ∧ cellCharged.tables.gt[(0 : Fin 16)].code = 1 ∧
        cellCharged.tables.gt[(0 : Fin 16)].dest = (cmd 20 [1]).dstAddr ∧ (cmd 63 [1]).dstAddr = 63) :=
  ⟨gated_close _ rfl (by decide +kernel) rfl, gated_close _ rfl (by decide +kernel) rfl,
    gated_open _ rfl (by decide +kernel) rfl [], gated_eject _ rfl (by decide +kernel) rfl,
    gated_eject _ rfl (by decide +kernel) rfl, by constructor <;> decide +kernel,
    by constructor <;> decide +kernel, fun h => absurd h.2 (by decide +kernel), by decide +kernel⟩

theorem witness_CloseBeginsCycle :
    Gated cellCharged (cmd 20 [1]) .close 0 ∧ ¬cellCharged.guardIsOpen 0 ∧
      cellCharged.presses[(0 : PressNo)].state = .ready ∧ cellCharged.presses[(0 : PressNo)].recipe = some 3 ∧
      cellCharged.sync.lost = false ∧ (∀ x ∈ cellCharged.line.release, x.press ≠ 0) ∧
      cellCharged.charges = [] ++ charge58 :: [] ∧ charge58.recipe = 3 :=
  ⟨gated_close _ rfl (by decide +kernel) rfl, fun h => absurd h.2 (by decide +kernel), by decide +kernel,
    by decide +kernel, rfl, by decide +kernel, rfl, rfl⟩

/-- The OPEN with its override flag set. -/
theorem witness_OpenInCuringAndCured :
    Gated (inCycle .curing) (cmd 20 [2, 1]) .open 0 ∧ Gated (inCycle .cured) (cmd 20 [2]) .open 0 ∧
      (inCycle .curing).presses[(0 : PressNo)].recipe = some 3 ∧
      ((cmd 20 [2, 1]).payload.getD 1 0).getLsbD 0 = true ∧
      ({ recipe3 with overrideOk := true } : Recipe).overrideOk = true ∧
      (inCycle .curing).presses[(0 : PressNo)].hold = none ∧
      (inCycleWith .curing (fun q => { q with hold := some plain })).presses[(0 : PressNo)].hold ≠ none :=
  ⟨gated_open _ rfl (by decide +kernel) rfl [1], gated_open _ rfl (by decide +kernel) rfl [],
    by decide +kernel⟩

theorem witness_EjectStartsStroke :
    Gated (inCycle .opened) (cmd 21 [5]) .eject 0 ∧ Gated (inCycle .stuck) (cmd 21 [5]) .eject 0 ∧
      ¬(inCycle .opened).guardIsOpen 0 ∧ (inCycle .opened).carries 0 9 cycle58 3 = true ∧
      cycle58.retries ≠ (inCycle .stuck).tables.rt[(3 : RecipeNo)].retries ∧
      ((inCycle .opened).loss.lost = false ∧ (bads 7 true).loss.lost = true) :=
  ⟨gated_eject _ rfl (by decide +kernel) rfl, gated_eject _ rfl (by decide +kernel) rfl,
    fun h => absurd h.2 (by decide +kernel), by decide +kernel⟩

/-- Press 0 in CURING with every zone at the threshold, or one short of it. -/
def curedAt (short : Nat) (q : Press → Press) : State :=
  let z (n : Nat) : ZoneRecord := { ZoneRecord.reset with state := .regulating, cure := n }
  let s := inCycleWith .curing q
  { s with zones := (s.zones.set 0 (z 1200000)).set 1 (z (1200000 - short)) }

theorem witness_CuredAndDwell :
    let s := curedAt 0 (fun q => { q with dwellDone := true, closed := some 1000000, dwellT := ranOut })
    let r := curedAt 1 (fun q => { q with dwellDone := true, hold := some plain })
    (s.presses[(0 : PressNo)].recipe = some 3 ∧ s.presses[(0 : PressNo)].state = .curing ∧
        s.presses[(0 : PressNo)].dwellDone = true ∧
        (∀ z ∈ s.tables.pt[(0 : PressNo)].zones, s.tables.rt[(3 : RecipeNo)].threshold ≤ s.zones[z].cure) ∧
        s.presses[(0 : PressNo)].hold = none ∧ timerDue s.now s.presses[(0 : PressNo)].dwellT = true) ∧
      (¬(∀ z ∈ r.tables.pt[(0 : PressNo)].zones, r.tables.rt[(3 : RecipeNo)].threshold ≤ r.zones[z].cure) ∧
        r.presses[(0 : PressNo)].hold = some plain ∧ timerDue r.now r.presses[(0 : PressNo)].dwellT = false) := by
  decide +kernel

theorem witness_PressTimeouts :
    (let s := inCycleWith .closing (fun q => { q with closeT := ranOut })
     s.rstn = true ∧ s.carries 0 9 cycle58 3 = true ∧ timerDue s.now s.presses[(0 : PressNo)].closeT = true ∧
       s.presses[(0 : PressNo)].state = .closing) ∧
      ((inCycle .curing).presses[(0 : PressNo)].state ≠ .closing ∧
        timerDue cellRun.now (inCycle .curing).presses[(0 : PressNo)].holdT = false) ∧
      (let s := inCycleWith .curing (fun q => { q with hold := some plain, holdT := ranOut })
       timerDue s.now s.presses[(0 : PressNo)].holdT = true) ∧
      (let s := inCycleWith .opening (fun q => { q with openT := ranOut })
       timerDue s.now s.presses[(0 : PressNo)].openT = true ∧ s.presses[(0 : PressNo)].state = .opening) := by
  decide +kernel

/-- The EJECT of the stroke still in the DOWN buffer. -/
def ejectStanding : State :=
  { inCycle .ejecting with line := { cellRun.line with
      down := [{ frame := cmd 21 [5], strokeOf := some 0, awaitedBy := none, uncounted := false }] } }

theorem witness_StuckAndHalt :
    ((inCycle .ejecting).presses[(0 : PressNo)].state = .ejecting ∧
        (∀ d ∈ (inCycle .ejecting).line.down, d.strokeOf ≠ some 0)) ∧
      (ejectStanding.presses[(0 : PressNo)].state = .ejecting ∧ ejectStanding.ejectStands 0 = true) ∧
      (let s := inCycleWith .ejecting (fun q => { q with ejectT := ranOut })
       s.rstn = true ∧ timerDue s.now s.presses[(0 : PressNo)].ejectT = true) ∧
      (inCycle .stuck).presses[(0 : PressNo)].state ≠ .ejecting := by decide +kernel

/-- Input 0 of the guard filter. -/
def filtered (g : GuardInput) (s : State) : State := { s with guard := s.guard.set 0 g }

theorem witness_GuardInputs :
    (cellRun.rstn = true ∧ ∀ n : Fin 4, cellRun.guard[n].due = false) ∧
      ((filtered { accepted := .closed, run := 2, due := false } cellRun).guard[(0 : Fin 4)].run = 2 ∧
        (filtered { accepted := .closed, run := 1, due := false } cellRun).guard[(0 : Fin 4)].run ≠ 2 ∧
        (1#4).getLsbD 0 = true ∧ (0#4).getLsbD 0 = false) ∧
      (let s := filtered { accepted := .closed, run := 0, due := true } (inCycle .ejecting)
       s.guard[(0 : Fin 4)].due = true ∧ s.guard[(0 : Fin 4)].accepted = .closed ∧
         s.tables.pt[(0 : Fin 4)].guardUsed = true ∧ s.presses[(0 : Fin 4)].state = .ejecting) ∧
      ((inCycle .opened).presses[(0 : Fin 4)].state = .opened ∧
        (inCycle .unloading).presses[(0 : Fin 4)].state = .unloading ∧
        (filtered { accepted := .open, run := 0, due := true } cellRun).guard[(0 : Fin 4)].accepted = .open) := by
  decide +kernel

theorem witness_PlatenReadings :
    ((inCycle .closing).presses[(0 : PressNo)].recipe = some 3 ∧
        (inCycle .closing).presses[(0 : PressNo)].state = .closing ∧
        1000 ≤ (inCycle .closing).tables.pt[(0 : PressNo)].closedAt ∧
        ¬(1001 ≤ (inCycle .closing).tables.pt[(0 : PressNo)].closedAt)) ∧
      ((inCycle .opening).presses[(0 : PressNo)].state = .opening ∧
        (inCycle .opening).tables.pt[(0 : PressNo)].openAt ≤ 50000) := by decide +kernel

theorem witness_EjectorPositions :
    ((inCycle .ejecting).carries 0 9 cycle58 3 = true ∧
        (inCycle .ejecting).presses[(0 : PressNo)].state = .ejecting ∧
        (inCycle .ejecting).tables.pt[(0 : PressNo)].outAt ≤ 40000 ∧
        (inCycle .ejecting).tables.pt[(0 : PressNo)].marker ≠ 0 ∧ PtEntry.reset.marker = 0) ∧
      ((inCycle .unloading).presses[(0 : PressNo)].state = .unloading ∧
        2000 ≤ (inCycle .unloading).tables.pt[(0 : PressNo)].homeAt ∧
        ¬(2001 ≤ (inCycle .unloading).tables.pt[(0 : PressNo)].homeAt)) := by decide +kernel

theorem witness_ForceReadings :
    (stroke450.presses[(0 : PressNo)].state = .ejecting ∧ stroke450.presses[(0 : PressNo)].recipe = some 3 ∧
        stroke450.presses[(0 : PressNo)].ejectStart = some 1119550 ∧ 0 < recipe3.debounce ∧
        stroke450.tables.rt[(3 : RecipeNo)] = recipe3) ∧
      (recipe3.peakLimit < 4001 ∧ 4000 ≤ recipe3.peakLimit ∧ 2500 ≤ recipe3.segMax.getD 2 0 ∧
        recipe3.segMax.getD 2 0 < 2501 ∧ 0 + 1 < recipe3.debounce ∧
        recipe3.debounce ≤ stroke450.presses[(0 : PressNo)].debounce + 1) ∧
      (inCycle .stuck).presses[(0 : PressNo)].state ≠ .ejecting := by decide +kernel

theorem witness_ReadingsAndTargets :
    (let f := buildFrame 12 0 kindSamp [0, 0, 1, 2]
     f.srcAddr = 12 ∧ cell.tables.cht[(0 : Fin 64)].role = .zoneTc ∧ cell.tables.cht[(0 : Fin 64)].node = f.srcAddr ∧
       cell.tables.cht[(0 : Fin 64)].channel = (0 : Byte).toNat ∧ cell.tables.cht[(0 : Fin 64)].index = (0 : ZoneNo).val ∧
       cell.tables.cht[(0 : Fin 64)].target = some 0 ∧ (1 : Byte).getLsbD 0 = true ∧ (0 : Byte).getLsbD 0 = false ∧
       cell.tables.cht[(2 : Fin 64)].role ≠ .zoneTc) ∧
      ((List.replicate 28 (0 : Byte)).length % 4 = 0 ∧ 32 < (List.replicate 33 (0 : Byte)).length) ∧
      (let s : State := { cell with now := 301, targets := cell.targets.set 0 (.fresh 13333 100 200) }
       s.rstn = true ∧ s.targets[(0 : TargetNo)] = .fresh 13333 100 200 ∧ 200 < (s.now - 100).toNat ∧
         ((300 : Time) - 100).toNat ≤ 200) ∧
      cell.targets[(0 : TargetNo)] = .unbound := by decide +kernel

theorem witness_ReadingsAndTargets_zones :
    (let s := inCycle .curing
     s.pressOf 0 = some 0 ∧ s.presses[(0 : PressNo)].state = .curing ∧
       (convert s.tables.lin[s.tables.zt[(0 : ZoneNo)].curve] s.tables.zt[(0 : ZoneNo)].offset 13333).1 =
         some 1685) ∧
      (convert curveReset 0 13333).1 = none ∧ cell.pressOf 5 = none ∧
      (let s := (inCycle .curing).setTarget 0 (.stale 13333 100)
       s.targets[zoneTarget 0] = .stale 13333 100 ∧ s.targets[zoneTarget 1] = .unbound) := by decide +kernel

theorem witness_TemperatureConversion :
    curve0.Pairwise (fun a b => a.raw < b.raw) ∧ ¬curveReset.Pairwise (fun a b => a.raw < b.raw) ∧
      curve0.head? = some ⟨2000, -200⟩ ∧ 1999 < 2000 ∧ curve0.getLast? = some ⟨34000, 3950⟩ := by decide +kernel

/-- Case C of Table 29 lies between these two breakpoints. -/
theorem witness_TemperatureConversion_between :
    (∀ b ∈ curve0, -400 ≤ b.temp ∧ b.temp ≤ 4000) ∧
      curve0 = curve0.take 4 ++ ⟨12000, 1500⟩ :: ⟨14000, 1800⟩ :: curve0.drop 6 ∧
      12000 ≤ 12010 ∧ 12010 ≤ 14000 ∧ 12000 < 14000 := by decide +kernel

theorem witness_CureIncrement : rates1.length = 24 ∧ ∀ x ∈ rates1, x ≤ 4095 := by decide

theorem witness_PiComputation : 64000 ≤ 64000 ∧ recipe3.kp ≤ 255 := by decide

/-- Zone 0 in a state. -/
def zoneIn (st : ZoneState) (n : Nat) : ZoneRecord :=
  { ZoneRecord.reset with state := st, staleCount := n, temp := some 1685 }

/-- The cell in CURING with zone 0 so, its target FRESH or not. -/
def heated (z : ZoneRecord) (fresh : Bool) : State :=
  let s := (inCycle .curing).updZone 0 (fun _ => z)
  if fresh then s.setTarget 0 (.fresh 13333 1120000 200) else s

theorem witness_PiComputation_zone :
    let s := heated (zoneIn .regulating 0) true
    s.pressOf 0 = some 0 ∧ s.positionOf 0 = some 0 ∧ s.presses[(0 : PressNo)].recipe = some 3 ∧
      s.targets[zoneTarget 0].isFresh = true ∧ s.zones[(0 : ZoneNo)].temp = some 1685 ∧
      s.zones[(0 : ZoneNo)].state = .regulating := by decide +kernel

theorem witness_ZoneAtPeriod :
    ((heated (zoneIn .regulating 0) false).targets[zoneTarget 0].isFresh = false ∧
        (heated (zoneIn .regulating 0) false).zones[(0 : ZoneNo)].state = .regulating ∧
        1 ≤ cell.tables.zt[(0 : ZoneNo)].grace ∧ cell.tables.zt[(5 : ZoneNo)].grace = 0) ∧
      (min 255 (1 + 1) ≤ cell.tables.zt[(0 : ZoneNo)].grace ∧ cell.tables.zt[(0 : ZoneNo)].grace < min 255 (2 + 1)) ∧
      (let s := heated (zoneIn .holding 2) true
       s.pressOf 0 = some 0 ∧ s.positionOf 0 = some 0 ∧ s.presses[(0 : PressNo)].recipe = some 3 ∧
         s.targets[zoneTarget 0].isFresh = true ∧ s.zones[(0 : ZoneNo)].temp = some 1685 ∧
         s.zones[(0 : ZoneNo)].state = .holding) := by decide +kernel

theorem witness_ControlPeriod :
    cellRun.rstn = true ∧ cellRun.periodDue = false ∧ ({ cellRun with periodDue := true } : State).periodDue = true := by
  decide +kernel

theorem witness_DutyBurst :
    cellRun.zoneCeiling 0 = some 800 ∧ cellRun.zones[(0 : ZoneNo)].state = .regulating ∧
      cellRun.zones[(5 : ZoneNo)].state = .unassigned ∧ cellRun.buildBurst.length = 1 := by decide +kernel

/-- The cell in RUN with the station in a state, its target FRESH. -/
def weighing (st : WeighState) (w : List WeighItem) : State :=
  { cellRun with weigh := { state := st, window := w, recipe := some 3, last := none },
                 targets := cellRun.targets.set 16 (.fresh 9000 1120000 50) }

/-- Eight equal readings of 8,486 g. -/
def eight : List WeighItem := List.replicate 8 { raw := 9000, weight := 8486 }

theorem witness_WeighStation :
    (let s : State := { weighing .empty [] with targets := cellRun.targets }
     s.rstn = true ∧ s.weigh.state = .empty ∧ s.targets[weighTarget].isFresh = false) ∧
      (let s : State := { weighing .loading [] with targets := cellRun.targets }
       s.weigh.state.loaded = true ∧ s.targets[weighTarget].isFresh = false) ∧
      (let s := weighing .off []
       s.targets[weighTarget].isFresh = true ∧
         ¬(s.mode = .config ∨ s.targets[weighTarget].isBound = false ∨ s.weigh.recipe = none)) ∧
      (cell.mode = .config ∧ cell.weigh.state = .off) ∧
      ((weighing .loading []).serves 0 0 true = true ∧ (weighing .loading []).weigh.recipe ≠ none ∧
        cell.tables.rt[(3 : RecipeNo)].valid = true ∧ cell.tables.rt[(7 : RecipeNo)].valid = false ∧
        (weighing .loading []).weigh.recipe ≠ some 0) ∧
      (let s := weighing (.stable .within 8486 6) eight
       s.serves 0 0 true = true ∧ s.weigh.window.length = s.tables.sys.weighM ∧
         windowSpread s.weigh.window ≤ s.tables.sys.weighBand) := by decide +kernel

/-- The weight at the threshold, one below it, the eight that settle and the seven that do not yet. -/
theorem witness_WeighStation_readings :
    (let y := sys96
     weightOf y 2089 = 50 ∧ y.weighEmpty ≤ weightOf y 2089 ∧ weightOf y 2088 < y.weighEmpty ∧ 4 ≤ y.weighM) ∧
      ((weighing .off []).weigh.state = .off ∧ (weighing .noSignal []).weigh.state = .noSignal ∧
        (weighing .empty []).weigh.state = .empty ∧ (weighing .loading []).weigh.state = .loading) ∧
      (weighing .loading eight).weigh.recipe = some 3 ∧ (weighing .loading eight).weigh.state.loaded = true ∧
      (let l : List WeighItem := (eight ++ [WeighItem.mk 9000 8486]).rtake sys96.weighM
       l.length = sys96.weighM ∧ ∀ a ∈ l, ∀ b ∈ l, a.weight ≤ b.weight + sys96.weighBand) ∧
      (eight.take 7).length ≠ sys96.weighM := by decide +kernel

theorem witness_RemovalFromScale :
    (let s := weighing (.stable .within 8486 6) eight
     s.weigh.state = .stable .within 8486 6 ∧ s.weigh.recipe = some 3 ∧ s.charges.length ≤ 8 ∧
       weightOf s.tables.sys 2048 < s.tables.sys.weighEmpty ∧ s.store.slots[(0 : SlotNo)] = .free ∧
       s.charges.length < 8) ∧
      (let s : State := { weighing (.stable .within 8486 6) eight with charges := List.replicate 8 charge58 }
       s.charges.length = 8 ∧ s.charges.length ≤ 8) ∧
      (let v : Vector Slot 64 := Vector.replicate 64 (.reserved .weigh)
       ∀ k : SlotNo, v[k] ≠ .free) := by decide +kernel

/-- R135: 63 slots FREE at a low mark of 63: STORE_LOW with detail 62, then CHARGE_ACCEPTED with number 1. -/
theorem test_store_low_at_crossing :
    let s : State := { weighing (.stable .within 8486 6) eight with
      store := owed3, tables := { tables96 with sys := { sys96 with lowMark := 63 } } }
    (s.weighReading 2048).notices.queue.map (fun n => (n.kind, n.subject, n.detail)) =
      [(.storeLow, 0, 62), (.chargeAccepted, 3, 1)] := by decide +kernel

theorem witness_ChargeEnds :
    (cellRun.rstn = true ∧ (∀ e ∈ cellRun.charges, e.number ≠ 58)) ∧
      (cellCharged.charges = [] ++ charge58 :: [] ∧ charge58.number = 58 ∧ cellCharged.serves 0 0 true = true) ∧
      ((1899999 - charge58.accepted).toNat < (charge58.expiry - charge58.accepted).toNat ∧
        (charge58.expiry - charge58.accepted).toNat ≤ (1900000 - charge58.accepted).toNat) := by decide +kernel

/-- The record of a slot of the store of 11 Table 102 lies in the first half of the circle from 52. -/
theorem store102_numbers : ∀ i : SlotNo,
    (match store102.slots[i] with
      | .stored r _ => decide ((r.number - 52).toNat < 10)
      | .free => true
      | .reserved _ => true) = true := by decide +kernel

theorem witness_StoreOrderAndRelease :
    store102.inHalf ∧ ({ cell with store := store102 } : State).serves 0 0 true = true ∧
      (∃ r d, store102.slots[(9 : SlotNo)] = .stored r d ∧ r.number = 61) ∧
      (∀ (k : SlotNo) r d, store102.slots[k] = .stored r d → upTo r.number 61 = true) ∧
      (∀ (k : SlotNo) r d, cell.store.slots[k] ≠ .stored r d) := by
  refine ⟨⟨52, fun i r d h => ?_⟩, by decide +kernel, ⟨_, _, by rfl, by decide +kernel⟩, fun k r d h => ?_,
    fun k r d h => ?_⟩
  · have := store102_numbers i
    rw [h] at this
    simp only [decide_eq_true_eq] at this
    omega
  · have := store102_numbers k
    rw [h] at this
    simp only [decide_eq_true_eq] at this
    simp only [upTo, precedes, Bool.or_eq_true, beq_iff_eq, Bool.and_eq_true, decide_eq_true_eq]
    bv_omega
  · have : ∀ k : SlotNo, cell.store.slots[k] = .free := by decide +kernel
    rw [this k] at h
    cases h

theorem witness_DrainChannels :
    (let s : State := { cell with now := 10, pace := some { start := 0, dur := 10 } }
     s.rstn = true ∧ timerDue s.now s.pace = true) ∧ timerDue cell.now cell.pace = false ∧
      ((draining .single 1).serves 0 0 false = true ∧ (draining .single 1).drain0.running = true) ∧
      (cell.serves 0 0 false = true ∧ cell.drain0.running = false ∧ (3 : Byte).toNat = 3 ∧
        (2 : Byte).toNat = DrainMode.block.code ∧ (63 : Byte).toNat < 64 ∧ 64 ≤ (64 : Byte).toNat) := by
  decide +kernel

/-- A write of a channel table entry. -/
def chtWrite : Write := .cht 9 ⟨13, 0, .none, 0, 10⟩

/-- A write of a zone table entry. -/
def ztWrite : Write := .zt 0 ⟨0, 5, 40, 0, 300, 2⟩

/-- The cell in RUN with posted writes. -/
def posting (ws : List Write) : State := { cellRun with agent := { cellRun.agent with posted := ws } }

/-- The cell with an open long read of requester 0. -/
def reading (what : ReadWhat) (part : Nat) (wait : Nat) : State :=
  let c : Context := { tag := 1, op := 5, what := what, part := part, wait := wait }
  { cell with agent := { cell.agent with contexts := cell.agent.contexts.set 0 (some c) }, store := store102 }

theorem witness_ShortReads : cell.serves 0 0 false = true ∧ cell.serves 0 0 true = true := by decide +kernel

theorem witness_TableReads :
    (let s := posting [ztWrite, chtWrite]
     s.serves 0 0 false = true ∧ s.agent.posted = [] ++ ztWrite :: [chtWrite] ∧ readWaitsOn 3 ztWrite = true ∧
       readWaitsOn 3 chtWrite = false ∧ waitCount 3 s.agent.posted ≠ 0 ∧ waitCount 4 s.agent.posted = 0 ∧
       s.agent.contexts[(0 : Fin 4)] = none) ∧
      (reading (.table 0 0 64) 0 0).agent.contexts[(0 : Fin 4)] ≠ none ∧
      ((15 : Byte).toNat ≤ 15 ∧ (8 : Byte).toNat ≤ 8 ∧ 11 ≤ 59 / readSize 0 ∧ 59 / readSize 0 < 12 ∧
        (0 : Byte).toNat + (64 : Byte).toNat ≤ tableEntries 0 ∧ tableEntries 0 < (1 : Byte).toNat + (64 : Byte).toNat) := by
  decide +kernel

/-- A CHT entry that binds a target, a target of each kind, and a slot of each kind. -/
theorem witness_TableReads_entries :
    cell.tables.cht[(0 : Fin 64)].target = some 0 ∧ (∀ i : Fin 64, cell.tables.cht[i].target ≠ some 28) ∧
      cell.targets[(0 : TargetNo)] = .unbound ∧
      (cell.setTarget 0 (.fresh 13333 100 200)).targets[(0 : TargetNo)] = .fresh 13333 100 200 ∧
      cell.pressOf 0 = some 0 ∧ cell.positionOf 1 = some 1 ∧ cell.pressOf 5 = none ∧
      cellCharged.charges[0]? = some charge58 ∧ cell.charges.length ≤ 0 ∧
      cellCharged.store.slots[(9 : SlotNo)] = .reserved (.charge 58) ∧
      (inCycle .curing).store.slots[(9 : SlotNo)] = .reserved (.press 0) ∧
      (inCycle .curing).presses[(0 : PressNo)].cycle = some cycle58 ∧ owed3.slots[(3 : SlotNo)].isStored = true ∧
      cell.census.verdict = none ∧ cell.weigh.state = .off := by decide +kernel

theorem witness_RecordBytesAndLongReads :
    (cell.serves 0 0 false = true ∧ cell.agent.contexts[(0 : Fin 4)] = none ∧ [true, false, true].length ≤ 8) ∧
      (let s := reading (.record 61) 0 0
       s.rstn = true ∧ s.agent.responses.length ≤ 2 ∧ (0 : Fin 4) = s.agent.turn + 0 ∧
         (s.agent.contexts[(0 : Fin 4)]).map (fun c => (c.wait, c.what, c.part)) = some (0, .record 61, 0) ∧
         (s.store.slots[(9 : SlotNo)].record?).map (·.number) = some 61) ∧
      ((reading (.table 0 0 64) 1 0).agent.contexts[(0 : Fin 4)].map (·.what) = some (.table 0 0 64)) ∧
      (reading (.record 61) 1 1).agent.contexts[(0 : Fin 4)].map (·.wait) = some 1 := by decide +kernel

/-- A content of the size of each table's entry; each fails none of its table's checks in CONFIG. -/
theorem witness_TableWriteChecks :
    writeSize 0 = some 5 ∧ writeSize 1 = some (curveBytes curve0).length ∧
      writeSize 2 = some (wordsBytes rates1).length ∧ writeSize 3 = some 8 ∧
      writeSize 4 = some (recipeBytes recipe3).length ∧ writeSize 5 = some (ptBytes pt0).length ∧
      writeSize 6 = some 4 ∧ writeSize 7 = some (sysBytes sys96).length ∧ writeSize 8 = some 2 := by decide +kernel

/-- R56, R95 and R98: the first check that fails gives the result. In RUN a GT write is BADSTATE though its class is
none of the four, a PT write of a READY press though its zone count is 7, and a ZT write that moves a heater BADARG
where its curve is 2 and BADSTATE where it is 0. -/
theorem test_first_failing_check :
    cellRun.checkWrite 6 15 [20, 9, 4, 0] = .refuse .badState ∧
      cellRun.checkWrite 6 16 [20, 9, 4, 0] = .refuse .badArg ∧
      cellRun.checkWrite 5 0 (7 :: (ptBytes pt0).tail) = .refuse .badState ∧
      cellRun.checkWrite 3 0 [2, 0, 5, 41, 0, 1, 44, 2] = .refuse .badArg ∧
      cellRun.checkWrite 3 0 [0, 0, 5, 41, 0, 1, 44, 2] = .refuse .badState := by decide +kernel

theorem witness_TableWriteChecks_accepted :
    writeSize 6 = some [20, 9, 1, 0].length ∧
      cell.checkWrite 6 15 [20, 9, 1, 0] = .accept (.gt 15 ⟨20, 9, .close, 0⟩) := by decide +kernel

/-- A write to each other table, with fields at the ends of their ranges. -/
theorem witness_TableWriteChecks_accepted_tables :
    cell.checkWrite 0 9 [13, 15, 1, 15, 255] = .accept (.cht 9 ⟨13, 15, .zoneTc, 15, 255⟩) ∧
      cell.checkWrite 1 1 (curveBytes curve0) = .accept (.lin 1 curve0) ∧
      cell.checkWrite 2 3 (wordsBytes rates1) = .accept (.crt 3 rates1) ∧
      cell.checkWrite 3 15 [1, 255, 155, 47, 15, 3, 233, 15] = .accept (.zt 15 ⟨1, -100, 47, 15, 1000, 15⟩) ∧
      cell.checkWrite 4 3 (recipeBytes recipe3) = .accept (.rt 3 recipe3) ∧
      cell.checkWrite 5 0 (ptBytes pt0) = .accept (.pt 0 pt0) ∧
      cell.checkWrite 7 0 (sysBytes sys96) = .accept (.sys sys96) ∧
      cell.checkWrite 8 1 [62, 0] = .accept (.acc 1 (some { addr := 62, level := .read })) := by decide +kernel

theorem witness_TableWrites :
    (cell.serves 0 0 true = true ∧ writeSize (6 : Byte).toNat = some [20, 9, 1, 0].length ∧ cell.mode = .config) ∧
      (cell.checkWrite 6 15 [20, 9, 4, 0] = .refuse .badArg) ∧
      (cellRun.mode = .run ∧ (posting []).checkWrite 3 0 [0, 0, 5, 40, 0, 1, 44, 2] = .accept ztWrite ∧
        ztWrite.table ≤ 3 ∧ ztWrite.table ≠ 0 ∧ (posting [ztWrite]).agent.posted = ztWrite :: [] ∧
        ztWrite.isCht = false) ∧
      ((posting []).checkWrite 0 9 [13, 0, 0, 0, 10] = .accept chtWrite ∧ chtWrite.table = 0) ∧
      4 ≤ (posting [ztWrite, ztWrite, ztWrite, ztWrite]).agent.posted.length ∧
      (cell.setMark 0 { table := 6, entry := 15 }).agent.marks[(0 : Fin 4)] =
        some { table := (6 : Byte).toNat, entry := (15 : Byte).toNat } ∧
      cell.agent.marks[(0 : Fin 4)] ≠ some { table := (6 : Byte).toNat, entry := (15 : Byte).toNat } := by
  decide +kernel

theorem witness_PostedWritesApply :
    (posting [ztWrite, chtWrite, ztWrite]).agent.posted = [ztWrite] ++ [chtWrite] ++ [ztWrite] ∧
      ztWrite.isHeat = true ∧ chtWrite.isCht = true ∧ ztWrite.isCht = false := by decide +kernel

/-- The offset of zone 0 changes; its curve is curve 0. -/
theorem witness_PostedWritesApply_reconversion :
    ztWrite = .zt 0 ⟨0, 5, 40, 0, 300, 2⟩ ∧ cellRun.tables.zt[(0 : ZoneNo)].offset ≠ 5 ∧
      cellRun.tables.zt[(0 : ZoneNo)].curve = 0 ∧
      (ChtEntry.mk 13 0 .zoneTc 2 10).target = some (zoneTarget 2) ∧
      cellRun.tables.cht[(0 : Fin 64)].target = some (zoneTarget 0) := by decide +kernel

theorem witness_ModeRun :
    (cellRun.serves 0 0 true = true ∧ cellRun.mode = .run) ∧
      ((counting .config .running).serves 0 0 true = true) ∧
      (cell.serves 0 0 true = true ∧ cell.tables.sys.censusRequired = true ∧ cell.census.passLatch = false) ∧
      (let s : State := { cell with census := { Census.reset with passLatch := true } }
       s.census.passLatch = true ∧ s.itemsRun.all (·.present) = true) ∧
      (let t : State := { cell with tables := { tables96 with zt := Tables.reset.zt } }
       (t.itemsRun.find? (fun x => !x.present)).map (fun x => (x.code, x.number)) = some (2, 0)) := by
  decide +kernel

/-- The items of the cell: press 0 alone has zones, 0 and 1, and every entry is there; with no heater in the ZT
the first missing one is the heater of zone 0, behind its thermocouple. -/
theorem witness_ModeRun_items :
    (cell.tables.pt[(0 : PressNo)].zones = [0, 1] ∧ ∀ p : PressNo, p ≠ 0 → cell.tables.pt[p].zones = []) ∧
      (∀ x ∈ [(Role.zoneTc, 0), (.zoneTc, 1), (.platen, 0), (.ejectForce, 0), (.ejectPos, 0)],
        ∃ k : Fin 64, cell.tables.cht[k].role = x.1 ∧ cell.tables.cht[k].index = x.2) ∧
      (∀ z ∈ [(0 : ZoneNo), 1], cell.tables.zt[z].heater ≠ 0 ∧
        (cell.tables.lin[cell.tables.zt[z].curve]).Pairwise (fun a b => a.raw < b.raw)) ∧
      ¬(Tables.reset.zt[(0 : ZoneNo)].heater ≠ 0) := by decide +kernel

/-- Every slot of a cell with a press in cycle is FREE but slot 9, which press 0 holds. -/
theorem inCycle_slots (st : PressState) : ∀ i : SlotNo,
    (inCycle st).store.slots[i] = if i = 9 then .reserved (.press 0) else .free :=
  have h : ∀ i : SlotNo, (inCycle .curing).store.slots[i] = if i = 9 then .reserved (.press 0) else .free := by
    decide +kernel
  h

/-- Custody with press 0 in CURING or in EJECTING. -/
theorem inCycle_custody {st : PressState} (hs : st = .curing ∨ st = .ejecting) : (inCycle st).Custody where
  numbers := List.Pairwise.nil
  charge := fun _ h => by cases h
  heldByCharge := fun i n h => by
    rw [inCycle_slots st i] at h
    split at h <;> cases h
  inCycle := by rcases hs with rfl | rfl <;> decide +kernel
  outOfCycle := by rcases hs with rfl | rfl <;> decide +kernel
  press := fun p i h => by
    have : ∀ p : PressNo, (inCycle st).presses[p].slot = if p = 0 then some 9 else none := by
      rcases hs with rfl | rfl <;> decide +kernel
    rw [this p] at h
    split at h
    · cases h; subst_vars; exact inCycle_slots st 9
    · cases h
  heldByPress := fun i p h => by
    rw [inCycle_slots st i] at h
    split at h
    · cases h; subst_vars; rcases hs with rfl | rfl <;> decide +kernel
    · cases h
  weigh := fun i h => by
    rw [inCycle_slots st i] at h
    split at h <;> cases h

theorem witness_ModeStopAndRestart :
    (inCycle .curing).Custody ∧ (inCycle .curing).serves 0 0 true = true ∧
      (∀ w ∈ (inCycle .curing).agent.posted, w.table ≤ 3) ∧
      ((inCycle .curing).mode = .run ∧ (1 : Byte).getLsbD 0 = true ∧ (0 : Byte).getLsbD 0 = false) :=
  ⟨inCycle_custody (.inl rfl), by decide +kernel⟩

/-- R130: a forced MODE STOP with press 0 in EJECTING; the halt is ordered by it. -/
theorem witness_ModeStopAndRestart_ejecting :
    (inCycle .ejecting).Custody ∧ (inCycle .ejecting).serves 0 0 true = true ∧ (inCycle .ejecting).agent.posted = [] ∧
      (inCycle .ejecting).mode = .run ∧ (inCycle .ejecting).presses[(0 : PressNo)].state = .ejecting ∧
      (inCycle .ejecting).presses[(1 : PressNo)].state ≠ .ejecting :=
  ⟨inCycle_custody (.inr rfl), by decide +kernel⟩

theorem witness_ModeStopAndRestart_posted :
    let s : State := { inCycle .curing with agent := { cellRun.agent with posted := [ztWrite, chtWrite] } }
    (∀ w ∈ s.agent.posted, w.table ≤ 3) ∧ s.serves 0 0 true = true ∧ s.agent.posted ≠ [] := by decide +kernel

/-- The cell in RUN with press 0 IDLE. -/
def idle0 : State := cellRun.updPress 0 (fun _ => Press.reset)

theorem witness_PressAssign :
    (idle0.serves 0 0 true = true ∧ idle0.mode = .run ∧ idle0.presses[(0 : PressNo)].state = .idle ∧
        (0 : Byte).toNat = (0 : PressNo).val ∧ (3 : Byte).toNat = (3 : RecipeNo).val ∧
        idle0.tables.rt[(3 : RecipeNo)].valid = true ∧ idle0.tables.pt[(0 : PressNo)].zones ≠ [] ∧
        (∀ x ∈ idle0.itemsAssign 0, x.present = true)) ∧
      (cellRun.presses[(0 : PressNo)].state = .ready ∧ cellRun.presses[(0 : PressNo)].state.inCycle = false) ∧
      ((inCycle .curing).presses[(0 : PressNo)].state.inCycle = true ∧
        idle0.tables.rt[(7 : RecipeNo)].valid = false) ∧
      ({ idle0 with tables := { tables96 with zt := Tables.reset.zt } } : State).itemsAssign 0 ≠ [] := by
  decide +kernel

theorem witness_PressAbortAndScrap :
    ((inCycle .ejecting).serves 0 0 true = true ∧ (inCycle .ejecting).presses[(0 : PressNo)].state.inCycle = true ∧
        (inCycle .ejecting).carries 0 9 cycle58 3 = true ∧ (3 : Byte).toNat = (3 : PressNo).val ∧
        4 ≤ (4 : Byte).toNat) ∧
      (inCycle .curing).presses[(0 : PressNo)].state ≠ .ejecting ∧
      cellRun.presses[(0 : PressNo)].state.inCycle = false := by decide +kernel

theorem witness_RequestRefusals :
    (requestOf (.modeRun 0 1) = some (0, 1, 9, []) ∧ cell.rstn = true ∧ cell.agent.responses.length < 4 ∧
        4 ≤ ({ cell with agent := { cell.agent with responses := List.replicate 4 plain } } :
          State).agent.responses.length) ∧
      ((∀ i : Fin 4, cell.agent.acc[i] = none ∨ cell.agent.acc[i] = some { addr := 0, level := .write }) ∧
        (0 : Addr) ≠ 1) ∧
      (let s : State := { cell with agent := { cell.agent with
         acc := cell.agent.acc.set 1 (some { addr := 1, level := .read }) } }
       s.requester 1 = some 1 ∧ s.levelOf 1 = .read) ∧
      (requestOf (.tableWrite 0 1 6 0 [1]) = some (0, 1, 7, [6, 0, 1]) ∧
        writeSize (6 : Byte).toNat ≠ some [(1 : Byte)].length) := by decide +kernel

/-- Request frames that are no row. -/
theorem witness_RequestRefusals_frames :
    (let f (p : List Byte) := buildFrame 0 48 kindMreq p
     cell.agent.responses.length < 4 ∧ (f [9]).payload.length < 2 ∧ cell.requester (f [9]).srcAddr = some 0 ∧
       (f [9, 24]).payload = 9 :: 24 :: [] ∧ 23 < (24 : Byte).toNat) ∧
      (cell.levelOf 0 = .write ∧ ((13 : Byte).toNat, [(1 : Byte)].length) ≠ (13, 2)) := by decide +kernel

theorem witness_BoundsAreKept : (inCycle .curing).Bounded ∧ ∃ t, step (inCycle .curing) = .next t :=
  ⟨by constructor <;> decide +kernel, _, rfl⟩

theorem witness_CustodyIsKept : (inCycle .curing).Custody ∧ ∃ t, step (inCycle .curing) = .next t :=
  ⟨inCycle_custody (.inl rfl), _, rfl⟩

/-- The cell in CURING with its press's zones REGULATING fits Table 37. -/
theorem inCycle_zonesFit : (inCycle .curing).ZonesFit := by constructor <;> decide +kernel

theorem witness_ZonesFollowTheirPresses :
    (inCycle .curing).Quiet ∧ (inCycle .curing).ZonesFit ∧ ∃ t, step (inCycle .curing) = .next t :=
  ⟨fun h => absurd h (by decide), inCycle_zonesFit, _, rfl⟩

theorem witness_ChannelKeysStayUnique :
    (inCycle .curing).Quiet ∧ (inCycle .curing).KeysUnique ∧ ∃ t, step (inCycle .curing) = .next t := by
  refine ⟨fun h => absurd h (by decide), fun k => ?_, _, rfl⟩
  have h : (inCycle .curing).agent.posted = [] := rfl
  rw [h, List.take_nil]
  show chtUnique cht96
  unfold chtUnique
  decide +kernel

theorem witness_UnreleasedRecordsStay :
    let s : State := { cell with store := owed3 }
    s.Custody ∧ (∃ t, exec .controlPeriod s = .next t) ∧
      ∃ r d, s.store.slots[(3 : SlotNo)] = .stored r d ∧ d.released = false := by
  have h : ∀ i : SlotNo, owed3.slots[i].isReserved = false := by decide +kernel
  refine ⟨⟨List.Pairwise.nil, fun _ h => (by cases h), fun i n k => ?_, by decide +kernel, by decide +kernel,
    fun p i k => ?_, fun i p k => ?_, fun i k => ?_⟩, ⟨_, rfl⟩, _, _, rfl, rfl⟩
  · have := h i
    rw [show owed3.slots[i] = _ from k] at this
    cases this
  · have : ∀ p : PressNo, cell.presses[p].slot = none := by decide +kernel
    exact absurd ((this p).symm.trans k) (by simp)
  · have := h i
    rw [show owed3.slots[i] = _ from k] at this
    cases this
  · have := h i
    rw [show owed3.slots[i] = _ from k] at this
    cases this

/-- A SYNC frame on U-in, none of whose symbols completes a RELEASE. -/
theorem witness_UnreleasedRecordsStay_frame :
    let s : State := { cell with store := owed3 }
    let sync := frameSymbols (frameTo 63 kindSync).bytes
    (∃ t, exec (.uInFrame sync) s = .next t) ∧
      ∀ before y after, Instr.uInFrame sync = .uInFrame (before ++ y :: after) →
        ∀ args, ¬(before.foldl State.uSymbol s).completesRequest y 21 args := by
  refine ⟨⟨_, rfl⟩, fun before y after h args ⟨f, tag, done, _, kind, _⟩ => ?_⟩
  have scan : ∀ k : Fin 8,
      (match (((frameSymbols (frameTo 63 kindSync).bytes).take k).foldl State.uSymbol
          { cell with store := owed3 }).line.uChk.feed ((frameSymbols (frameTo 63 kindSync).bytes).getD k .idle) with
        | (_, some (.good f)) => decide (f.kind = kindMreq)
        | _ => false) = false := by decide +kernel
  have e : frameSymbols (frameTo 63 kindSync).bytes = before ++ y :: after := Instr.uInFrame.inj h
  have short : before.length < 8 := by
    have : (frameSymbols (frameTo 63 kindSync).bytes).length = 8 := by decide +kernel
    rw [e] at this
    simp at this
    omega
  have := scan ⟨before.length, short⟩
  rw [e, show (before ++ y :: after).take before.length = before from List.take_left,
    show (before ++ y :: after).getD before.length .idle = y by simp] at this
  change ((before.foldl State.uSymbol { cell with store := owed3 }).line.uChk.feed y).2 = _ at done
  split at this
  · rename_i r g heq
    rw [heq] at done
    cases done
    simp [kind] at this
  · rename_i no
    exact no _ f (Prod.ext rfl done)


end Sys2Proof.Tests
end

/-! ## Laws of the clock: what is due, and the free order in which it is queued -/

namespace Sys2Proof.Machine

open Sys2Proof

/-! ### The free order keeps the groups whole (log 3) -/

theorem insertByKey_perm {α : Type} (k : Nat) (x : α) (l : List (Nat × α)) :
    (insertByKey k x l).Perm ((k, x) :: l) := by
  induction l with
  | nil => exact .refl _
  | cons y ys ih =>
    rw [insertByKey]
    split
    · exact .refl _
    · exact (ih.cons y).trans (.swap (k, x) y ys)

theorem placeFree_perm {α : Type} (c : Nat) (l : List α) : ((placeFree c l).map (·.2)).Perm l := by
  induction l generalizing c with
  | nil => exact .refl _
  | cons x xs ih => exact ((insertByKey_perm _ x _).map _).trans ((ih (c + 1)).cons x)

/-- The queue made of some groups is those groups whole, in some order. -/
theorem freeOrder_eq_flatten_perm (c : Nat) (l : List (List Instr)) :
    ∃ gs : List (List Instr), gs.Perm l ∧ freeOrder c l = gs.flatten := by
  cases l with
  | nil => exact ⟨[], .refl _, rfl⟩
  | cons g rest =>
    cases rest with
    | nil => exact ⟨[g], .refl _, by simp [freeOrder]⟩
    | cons h rest =>
      exact ⟨_, placeFree_perm c (g :: h :: rest), by simp [freeOrder, List.flatMap_def]⟩

/-- Queueing groups changes the queue and the free-value counter alone. -/
theorem State.queueEvents_eq (s : State) (l : List (List Instr)) :
    ∃ (gs : List (List Instr)) (n : Nat), gs.Perm l ∧
      s.queueEvents l = { s with pending := gs.flatten, freeCount := n } := by
  obtain ⟨gs, perm, flat⟩ := freeOrder_eq_flatten_perm (s.freeCount + 1) l
  exact ⟨gs, _, perm, by rw [State.queueEvents, flat]⟩

/-! ### The step with no command waiting (log 2) -/

theorem step_of_idle {s : State} (idle : s.pending = []) : step s = .next s.tick := by
  rw [step, idle]

theorem State.tick_of_low {s : State} (low : s.rstn = false) : s.tick = s := by
  simp [State.tick, low]

theorem State.tick_of_dueNow {s : State} (high : s.rstn = true) (due : s.dueNow ≠ []) :
    s.tick = s.queueEvents s.dueNow := by
  simp [State.tick, high, due]

theorem State.tick_of_dueNow_nil {s : State} (high : s.rstn = true) (quiet : s.dueNow = []) :
    s.tick = s.millisecond := by
  simp [State.tick, high, quiet]

/-! ### Conditions under which an event is due -/

@[simp] theorem mem_dueIf {b : Bool} {c : Instr} {g : List Instr} : g ∈ dueIf b c ↔ b = true ∧ g = [c] := by
  cases b <;> simp [dueIf]

@[simp] theorem mem_allPresses (p : PressNo) : p ∈ allPresses := by
  revert p
  decide

@[simp] theorem mem_allTargets (t : TargetNo) : t ∈ allTargets := List.mem_finRange t

theorem mem_turnOrder (t i : Fin 4) : i ∈ turnOrder t := by
  revert t i
  decide

theorem contextReady_iff {x : Option Context} : contextReady x = true ↔ ∃ c, x = some c ∧ c.wait = 0 := by
  cases x <;> simp [contextReady]

/-- A part is due when the response queue has room and some context is ready, wherever the turn stands (R155). -/
theorem State.nextPart_isSome_iff (s : State) :
    s.nextPart.isSome = true ↔ s.agent.responses.length < 3 ∧
      ∃ (i : Fin 4) (c : Context), s.agent.contexts[i] = some c ∧ c.wait = 0 := by
  unfold State.nextPart
  split
  next room => simp [room, List.find?_isSome, mem_turnOrder, contextReady_iff]
  next full => simp [full]

theorem Target.aged_iff {now : Time} {x : Target} :
    x.aged now = true ↔ ∃ v a m, x = .fresh v a m ∧ m < (now - a).toNat := by
  cases x with
  | unbound | unrefreshed | stale => simp [Target.aged]
  | fresh v a m =>
    rw [Target.aged, elapsed, decide_eq_true_iff]
    constructor
    · exact fun old => ⟨v, a, m, rfl, old⟩
    · rintro ⟨_, _, _, ⟨⟩, old⟩
      exact old

theorem State.windowDue_iff (s : State) :
    s.windowDue = true ↔ ∃ w, s.census.phase = .window w ∧ timerDue s.now (some w) = true := by
  unfold State.windowDue
  split <;> simp_all [timerDue]

theorem ChargeEntry.expired_iff {now : Time} {e : ChargeEntry} :
    e.expired now = true ↔ (e.expiry - e.accepted).toNat ≤ (now - e.accepted).toNat := by
  rw [ChargeEntry.expired, elapsed, decide_eq_true_iff]

/-- After a sample an acceptance is due if it was due before, or if this is the third differing sample (R118). -/
theorem GuardInput.sample_due_iff {x : GuardInput} {l : GuardLevel} :
    (x.sample l).due = true ↔ x.due = true ∨ (x.run = 2 ∧ x.accepted ≠ l) := by
  unfold GuardInput.sample
  split
  next same => simp [(beq_iff_eq.mp same).symm]
  next differs =>
    have differs : x.accepted ≠ l := fun e => differs (by simp [e])
    split
    next third => simp_all
    next early => simp_all

/-! ### The members of the lists of due events -/

theorem State.mem_dueNow (s : State) (g : List Instr) :
    g ∈ s.dueNow ↔
      (s.periodDue = true ∧ g = [.controlPeriod]) ∨
      (∃ n : Fin 4, s.guard[n].due = true ∧ g = [.guardLevelAccepted n]) ∨
      (s.nextPart.isSome = true ∧ g = [.longReadPart]) := by
  simp only [State.dueNow, List.mem_append, List.mem_flatMap, mem_dueIf, mem_allPresses, true_and, or_assoc]

/-- The inputs whose level a sampling accepts, ascending, are the one ascending list of the inputs whose acceptance
is due after it. -/
theorem State.eq_dueGuards_iff (s : State) (levels : BitVec 4) (g : List Instr) :
    g = s.dueGuards levels ↔
      ∃ ns : List (Fin 4), g = .guardSample levels :: ns.map .guardLevelAccepted ∧ ns.Pairwise (· < ·) ∧
        ∀ n : Fin 4, n ∈ ns ↔ (s.guard[n].sample (levelOfPin (levels.getLsbD n))).due = true := by
  have ascending : (allPresses.filter fun n =>
      (s.guard[n].sample (levelOfPin (levels.getLsbD n))).due).Pairwise (· < ·) :=
    List.Pairwise.filter _ (by decide)
  constructor
  · rintro rfl
    exact ⟨_, rfl, ascending, fun n => by simp⟩
  · rintro ⟨ns, rfl, sorted, mem⟩
    have same := List.Pairwise.eq_of_mem_iff sorted ascending fun n => by simp [mem]
    rw [State.dueGuards, same]

theorem State.mem_dueTargets (s : State) (g : List Instr) :
    g ∈ s.dueTargets ↔
      ∃ t : TargetNo, t ≠ weighTarget ∧ s.targets[t].aged s.now = true ∧ g = [.targetAgeExpiry t] := by
  simp [State.dueTargets]

theorem State.mem_dueWeigh (s : State) (g : List Instr) :
    g ∈ s.dueWeigh ↔
      (s.targets[weighTarget].aged s.now = true ∧ g = [.targetAgeExpiry weighTarget, .weighSignalCheck]) ∨
      (¬s.targets[weighTarget].aged s.now = true ∧ g = [.weighSignalCheck]) := by
  unfold State.dueWeigh
  cases s.targets[weighTarget].aged s.now with
  | true => simp
  | false => simp

theorem State.mem_dueLine (s : State) (g : List Instr) :
    g ∈ s.dueLine ↔
      (timerDue s.now s.sync.timer = true ∧ g = [.syncTimeout]) ∨
      (timerDue s.now s.loss.timer = true ∧ g = [.silenceTimeout]) ∨
      (s.windowDue = true ∧ g = [.censusWindowExpiry]) ∨
      (timerDue s.now s.pace = true ∧ g = [.paceTimerExpiry]) := by
  simp only [State.dueLine, List.mem_append, mem_dueIf, or_assoc]

theorem State.mem_dueCharges (s : State) (g : List Instr) :
    g ∈ s.dueCharges ↔ ∃ e ∈ s.charges, e.expired s.now = true ∧ g = [.chargeExpired e.number] := by
  simp only [State.dueCharges, List.mem_flatMap, mem_dueIf]

theorem State.mem_duePress (s : State) (p : PressNo) (g : List Instr) :
    g ∈ s.duePress p ↔
      (timerDue s.now s.presses[p].closeT = true ∧ g = [.closeTimerExpiry p]) ∨
      (timerDue s.now s.presses[p].dwellT = true ∧ g = [.dwellTimerExpiry p]) ∨
      (timerDue s.now s.presses[p].holdT = true ∧ g = [.openHoldExpired p]) ∨
      (timerDue s.now s.presses[p].openT = true ∧ g = [.openTimeout p]) ∨
      (timerDue s.now s.presses[p].ejectT = true ∧ g = [.ejectTimerExpiry p]) := by
  simp only [State.duePress, List.mem_append, mem_dueIf, or_assoc]

theorem State.mem_dueMillisecond (s : State) (g : List Instr) :
    g ∈ s.dueMillisecond ↔
      g = s.dueGuards (Config.guardPins s.freeCount) ∨ g ∈ s.dueTargets ∨ g ∈ s.dueWeigh ∨ g ∈ s.dueLine ∨
        g ∈ s.dueCharges ∨ ∃ p : PressNo, g ∈ s.duePress p := by
  simp only [State.dueMillisecond, List.mem_append, List.mem_singleton, List.mem_flatMap, mem_allPresses, true_and,
    or_assoc]

/-! ## The obligations of the scope -/

/-- Settles O2: the two idle cases of the step, the free order as a permutation of whole groups, and the members of
the lists of due events. -/
theorem idleStepQueuesWhatIsDue : Obligations.IdleStepQueuesWhatIsDue := by
  refine ⟨fun s idle => ⟨fun low => ?_, fun high due => ?_, fun high quiet => ?_⟩, fun s g => ⟨?_, ?_⟩⟩
  · rw [step_of_idle idle, State.tick_of_low low]
  · obtain ⟨gs, n, perm, queued⟩ := s.queueEvents_eq s.dueNow
    exact ⟨gs, n, perm, by rw [step_of_idle idle, State.tick_of_dueNow high due, queued]⟩
  · let s1 : State := { s with now := s.now + 1 }
    obtain ⟨gs, n, perm, queued⟩ := s1.queueEvents_eq s1.dueMillisecond
    exact ⟨gs, n, perm, by
      rw [step_of_idle idle, State.tick_of_dueNow_nil high quiet, State.millisecond, queued]⟩
  · simp only [State.mem_dueNow, State.nextPart_isSome_iff, and_assoc]
  · simp only [State.mem_dueMillisecond, State.eq_dueGuards_iff, State.mem_dueTargets, State.mem_dueWeigh,
      State.mem_dueLine, State.mem_dueCharges, State.mem_duePress, GuardInput.sample_due_iff, levelOfPin,
      Target.aged_iff, State.windowDue_iff, ChargeEntry.expired_iff, exists_eq_left, or_assoc, exists_and_left]

/-- Nothing is received while RSTn is low (R1, R2). -/
theorem receive_of_low (take : State → Symbol → State) (x : List Symbol) {s : State} (low : s.rstn = false) :
    receive take x s = .next s := by
  simp [receive, low]

/-- No event of the part acts while RSTn is low (R1, log 7). -/
theorem event_of_low (f : State → State) {s : State} (low : s.rstn = false) : event f s = .next s := by
  simp [event, low]

/-- Settles O3: power-on and the fall of RSTn as they are defined; while it is low, reception, events and the idle
step change nothing. -/
theorem powerOnAndReset : Obligations.PowerOnAndReset := by
  refine fun s => ⟨fun _ => rfl, rfl, fun low => ⟨fun x => ?_, fun x => ?_, fun l => ?_, fun idle => ?_⟩⟩
  · exact receive_of_low State.uSymbol x low
  · exact receive_of_low State.dSymbol x low
  · exact event_of_low (fun s => s.sampleGuards l) low
  · rw [step_of_idle idle, State.tick_of_low low]

end Sys2Proof.Machine

/-! ## Laws of the posted writes: what an applied write does to the tables, and what the queue does with it -/

namespace Sys2Proof.Machine

open Sys2Proof

/-! ### An applied write is the write to the tables (R28, R40, R47, R57) -/

theorem State.waive_tables (s : State) : s.waive.tables = s.tables := rfl

theorem State.applyWrite_tables (s : State) (w : Write) : (s.applyWrite w).tables = s.tables.after w := by
  cases w with
  | crt i r | rt i r | gt i e => rfl
  | cht i e =>
    rw [State.applyWrite, State.applyCht]
    rw [(State.weighGate_only _).tables rfl, (State.resetTarget_only _ _ _).tables rfl]
    split
    · rfl
    · exact (State.resetTarget_only _ _ _).tables rfl
  | lin i c => exact (Only.foldl State.reconvert_only _ _).tables rfl
  | zt z e =>
    rw [State.applyWrite, State.applyZt]
    split
    · exact (State.reconvert_only _ _).tables rfl
    · rfl
  | pt p e =>
    exact ((Only.foldl (fun s z => State.updZone_only s z _) _ _).tables rfl).trans
      ((Only.foldl (fun s z => State.updZone_only s z _) _ _).tables rfl)
  | sys y =>
    rw [State.applyWrite, State.applySys]
    split
    · rfl
    · rfl
  | acc i e =>
    rw [State.applyWrite, State.applyAcc]
    split
    · rfl
    · rfl

/-- Only a write to the requester table changes the agent (R151). -/
theorem State.applyWrite_agent (s : State) (w : Write) (h : w.table ≠ 8) : (s.applyWrite w).agent = s.agent := by
  cases w with
  | crt i r | rt i r | gt i e => rfl
  | cht i e => exact (State.applyCht_only s i e).agent rfl
  | lin i c => exact (State.applyLin_only s i c).agent rfl
  | zt z e => exact (State.applyZt_only s z e).agent rfl
  | pt p e => exact (State.applyPt_only s p e).agent rfl
  | sys y => exact (State.applySys_only s y).agent rfl
  | acc i e => exact absurd rfl h

theorem State.applyWrite_posted (s : State) (w : Write) : (s.applyWrite w).agent.posted = s.agent.posted := by
  cases w with
  | acc i e =>
    rw [State.applyWrite, State.applyAcc]
    split
    · rfl
    · rfl
  | cht i e | lin i e | crt i e | zt i e | rt i e | pt i e | gt i e | sys e =>
    rw [State.applyWrite_agent s _ (by simp [Write.table])]

theorem State.applyWrite_mode (s : State) (w : Write) : (s.applyWrite w).mode = s.mode :=
  (State.applyWrite_only s w).mode rfl

theorem Tables.after_cht (t : Tables) (w : Write) : (t.after w).cht = chtAfter t.cht w := by
  cases w with
  | cht i e | lin i e | crt i e | zt i e | rt i e | pt i e | gt i e | sys e | acc i e => rfl

theorem State.applyWrite_cht (s : State) (w : Write) : (s.applyWrite w).tables.cht = chtAfter s.tables.cht w := by
  rw [State.applyWrite_tables, Tables.after_cht]

theorem chtAfter_of_table {w : Write} (t : Vector ChtEntry 64) (h : w.table ≠ 0) : chtAfter t w = t := by
  cases w with
  | cht i e => exact absurd rfl h
  | lin i e | crt i e | zt i e | rt i e | pt i e | gt i e | sys e | acc i e => rfl

/-- The table a new channel table write is checked against (R27). -/
theorem State.projectedCht_eq (s : State) : s.projectedCht = s.agent.posted.foldl chtAfter s.tables.cht := rfl

/-! ### The run of writes applied from the head of the queue (R158) -/

@[simp] theorem State.postedDone_tables (s : State) : s.postedDone.tables = s.tables := rfl
@[simp] theorem State.postedDone_mode (s : State) : s.postedDone.mode = s.mode := rfl
@[simp] theorem State.postedDone_posted (s : State) : s.postedDone.agent.posted = s.agent.posted.tail := rfl

/-- A property kept by every write applied from the head of the queue is kept by a run of them. -/
theorem applyWhile_keeps {P : State → Prop} (f : Write → Bool)
    (head : ∀ s w ws, s.agent.posted = w :: ws → P s → P (s.applyWrite w).postedDone) :
    ∀ (l : List Write) (s : State), s.agent.posted = l → P s → P (applyWhile f l s) := by
  intro l
  induction l with
  | nil => exact fun s _ h => h
  | cons w ws ih =>
    intro s queue h
    rw [applyWhile]
    split
    · exact ih _ (by simp [State.applyWrite_posted, queue]) (head s w ws queue h)
    · exact h

theorem State.applyAllPosted_posted (s : State) : s.applyAllPosted.agent.posted = [] := by
  suffices all : ∀ (l : List Write) (s : State), s.agent.posted = l →
      (applyWhile (fun _ => true) l s).agent.posted = [] from all _ s rfl
  intro l
  induction l with
  | nil => exact fun s queue => queue
  | cons w ws ih =>
    intro s queue
    exact ih _ (by simp [State.applyWrite_posted, queue])

/-! ## The channel table's unique keys (R27) -/

/-- What the uniqueness of the channel table's keys rests on: the table as it stands and as the posted writes make
it, and no write waiting in CONFIG, where a write is applied behind no other (R158). -/
structure State.KeysSafe (s : State) : Prop where
  unique : s.KeysUnique
  settled : s.mode = .config → s.agent.posted = []

/-- Two states with one channel table, one queue of posted writes and one mode. -/
structure SameKeys (s t : State) : Prop where
  cht : t.tables.cht = s.tables.cht
  posted : t.agent.posted = s.agent.posted
  mode : t.mode = s.mode

theorem SameKeys.refl (s : State) : SameKeys s s := ⟨rfl, rfl, rfl⟩

theorem SameKeys.trans {s t u : State} (h : SameKeys s t) (k : SameKeys t u) : SameKeys s u :=
  ⟨k.cht.trans h.cht, k.posted.trans h.posted, k.mode.trans h.mode⟩

/-- An operation whose footprint leaves out tables, agent and mode. -/
theorem SameKeys.of_only {c : Footprint} {s t : State} (h : Only c s t)
    (apart : (c.tables || c.agent || c.mode) = false) : SameKeys s t := by
  simp only [Bool.or_eq_false_iff] at apart
  obtain ⟨⟨tables, agent⟩, mode⟩ := apart
  exact ⟨by rw [h.tables tables], by rw [h.agent agent], h.mode mode⟩

theorem SameKeys.unique {s t : State} (h : SameKeys s t) (k : s.KeysUnique) : t.KeysUnique := by
  rw [State.KeysUnique, h.cht, h.posted]
  exact k

theorem SameKeys.safe {s t : State} (h : SameKeys s t) (k : s.KeysSafe) : t.KeysSafe :=
  ⟨h.unique k.unique, by rw [h.mode, h.posted]; exact k.settled⟩

theorem State.KeysSafe.same {s t : State} (k : s.KeysSafe) (cht : t.tables.cht = s.tables.cht)
    (posted : t.agent.posted = s.agent.posted) (mode : t.mode = s.mode) : t.KeysSafe :=
  SameKeys.safe ⟨cht, posted, mode⟩ k

/-- A property of the keys, carried through an operation given by its footprint. -/
theorem State.KeysSafe.only {c : Footprint} {s t : State} (k : s.KeysSafe) (h : Only c s t)
    (apart : (c.tables || c.agent || c.mode) = false) : t.KeysSafe :=
  (SameKeys.of_only h apart).safe k

/-- An active entry that collides with none shares no key and no role target with another active entry (R27). -/
theorem chtApart_of_collides {t : Vector ChtEntry 64} {i : Fin 64} {e : ChtEntry}
    (free : chtCollides t i e = false) (live : e.active = true) (j : Fin 64) (other : j ≠ i)
    (active : t[j].active = true) :
    ¬(t[j].node = e.node ∧ t[j].channel = e.channel) ∧ t[j].target ≠ e.target := by
  simp only [chtCollides, live, Bool.true_and, List.any_eq_false] at free
  have none := free j (List.mem_finRange j)
  simp only [active, Bool.and_true, Bool.and_eq_true, Bool.or_eq_true, bne_iff_ne, ne_eq, other,
    not_false_eq_true, true_and, beq_iff_eq, not_or] at none
  exact none

/-- A table stays unique under an entry that collides with no other (R27). -/
theorem chtUnique_set {t : Vector ChtEntry 64} {i : Fin 64} {e : ChtEntry} (unique : chtUnique t)
    (free : chtCollides t i e = false) : chtUnique (t.set i e) := by
  have other : ∀ j : Fin 64, j ≠ i → (t.set i e)[j] = t[j] := fun j h =>
    Vector.getElem_set_ne _ _ (fun same => h (Fin.ext same.symm))
  have self : (t.set i e)[i] = e := Vector.getElem_set_self _
  intro j k distinct activeJ activeK
  by_cases hj : j = i
  · subst hj
    rw [self] at activeJ ⊢
    rw [other k (Ne.symm distinct)] at activeK ⊢
    obtain ⟨key, target⟩ := chtApart_of_collides free activeJ k (Ne.symm distinct) activeK
    exact ⟨fun ⟨n, c⟩ => key ⟨n.symm, c.symm⟩, Ne.symm target⟩
  · rw [other j hj] at activeJ ⊢
    by_cases hk : k = i
    · subst hk
      rw [self] at activeK ⊢
      exact chtApart_of_collides free activeK j hj activeJ
    · rw [other k hk] at activeK ⊢
      exact unique j k distinct activeJ activeK

/-! ### The checks of a write (R26, R157) -/

/-- A check in front of others lets a write pass when it does not fail and they let it pass. -/
theorem ite_refuse_eq_accept {b : Prop} [Decidable b] {r : MgmtResult} {x : Checked} {w : Write} :
    (if b then .refuse r else x) = .accept w ↔ ¬b ∧ x = .accept w := by
  split
  · simp_all
  · simp_all

/-- The entry that a channel table write carries (R26). -/
def chtEntryOf (bs : List Byte) (role : Role) : ChtEntry :=
  { node := fieldAddr bs 0, channel := field bs 1 1, role := role,
    index := roleIndexStored role (field bs 3 1), ageUnits := field bs 4 1 }

theorem State.checkCht_eq_accept {s : State} {entry : Nat} {bs : List Byte} {w : Write} :
    s.checkCht entry bs = .accept w ↔
      ∃ (h : entry < 64) (role : Role), Role.ofCode (field bs 2 1) = some role ∧
        roleIndexBad role (field bs 3 1) = false ∧ field bs 1 1 ≤ 15 ∧ field bs 4 1 ≠ 0 ∧
        chtCollides s.projectedCht ⟨entry, h⟩ (chtEntryOf bs role) = false ∧
        w = .cht ⟨entry, h⟩ (chtEntryOf bs role) := by
  unfold State.checkCht
  split
  next h =>
    cases code : Role.ofCode (field bs 2 1) with
    | none => simp
    | some role =>
      simp only [ite_refuse_eq_accept, Checked.accept.injEq, Bool.not_eq_true, Nat.not_lt, beq_iff_eq]
      constructor
      · rintro ⟨index, channel, age, free, rfl⟩
        exact ⟨h, role, rfl, index, channel, age, free, rfl⟩
      · rintro ⟨_, _, ⟨⟩, index, channel, age, free, rfl⟩
        exact ⟨index, channel, age, free, rfl⟩
  next h => exact ⟨nofun, fun ⟨inside, _⟩ => absurd inside h⟩

theorem lin_of_checkLin {entry : Nat} {bs : List Byte} {w : Write} (accepted : checkLin entry bs = .accept w) :
    ∃ h : entry < 2, w = .lin ⟨entry, h⟩ (parseCurve bs) := by
  unfold checkLin at accepted
  split at accepted
  next h =>
    simp only [ite_refuse_eq_accept] at accepted
    obtain ⟨-, accepted⟩ := accepted
    split at accepted
    · exact ⟨h, (Checked.accept.inj accepted).symm⟩
    · contradiction
  next h => contradiction

theorem crt_of_checkCrt {entry : Nat} {bs : List Byte} {w : Write} (accepted : checkCrt entry bs = .accept w) :
    ∃ h : entry < 4, w = .crt ⟨entry, h⟩ (parseWords bs 0 24) := by
  unfold checkCrt at accepted
  split at accepted
  next h =>
    simp only [ite_refuse_eq_accept] at accepted
    obtain ⟨-, accepted⟩ := accepted
    exact ⟨h, (Checked.accept.inj accepted).symm⟩
  next h => contradiction

theorem State.zt_of_checkZt {s : State} {entry : Nat} {bs : List Byte} {w : Write}
    (accepted : s.checkZt entry bs = .accept w) :
    ∃ (h : entry < 16) (curve : field bs 0 1 < 2), w = .zt ⟨entry, h⟩ (parseZt bs ⟨field bs 0 1, curve⟩) := by
  unfold State.checkZt at accepted
  split at accepted
  next h =>
    split at accepted
    next curve =>
      simp only [ite_refuse_eq_accept] at accepted
      obtain ⟨-, -, -, -, -, -, accepted⟩ := accepted
      exact ⟨h, curve, (Checked.accept.inj accepted).symm⟩
    next curve => contradiction
  next h => contradiction

theorem State.rt_of_checkRt {s : State} {entry : Nat} {bs : List Byte} {w : Write}
    (accepted : s.checkRt entry bs = .accept w) :
    ∃ h : entry < 8, w = .rt ⟨entry, h⟩ (parseRecipe bs).clamped := by
  unfold State.checkRt at accepted
  split at accepted
  next h =>
    simp only [ite_refuse_eq_accept] at accepted
    obtain ⟨-, -, -, accepted⟩ := accepted
    exact ⟨h, (Checked.accept.inj accepted).symm⟩
  next h => contradiction

theorem State.pt_of_checkPt {s : State} {entry : Nat} {bs : List Byte} {w : Write}
    (accepted : s.checkPt entry bs = .accept w) : ∃ h : entry < 4, w = .pt ⟨entry, h⟩ (parsePt bs) := by
  unfold State.checkPt at accepted
  split at accepted
  next h =>
    simp only [ite_refuse_eq_accept] at accepted
    obtain ⟨-, -, -, -, -, -, accepted⟩ := accepted
    exact ⟨h, (Checked.accept.inj accepted).symm⟩
  next h => contradiction

/-- The gate table entry that a write carries (R98). -/
def gtEntryOf (bs : List Byte) (cls : GateClass) (press : PressNo) : GtEntry :=
  if cls = .none then .reset
  else { dest := fieldAddr bs 0, code := byteOf (field bs 1 1), cls := cls, press := press }

theorem State.gt_of_checkGt {s : State} {entry : Nat} {bs : List Byte} {w : Write}
    (accepted : s.checkGt entry bs = .accept w) :
    ∃ (h : entry < 16) (cls : GateClass) (press : field bs 3 1 < 4),
      GateClass.ofCode (field bs 2 1) = some cls ∧
      w = .gt ⟨entry, h⟩ (gtEntryOf bs cls ⟨field bs 3 1, press⟩) := by
  unfold State.checkGt at accepted
  split at accepted
  next h =>
    simp only [ite_refuse_eq_accept] at accepted
    obtain ⟨-, accepted⟩ := accepted
    split at accepted
    next => contradiction
    next cls code =>
      split at accepted
      next press =>
        refine ⟨h, cls, press, code, ?_⟩
        split at accepted
        next none =>
          rw [gtEntryOf, if_pos (beq_iff_eq.mp none)]
          exact (Checked.accept.inj accepted).symm
        next some =>
          simp only [ite_refuse_eq_accept] at accepted
          obtain ⟨-, -, accepted⟩ := accepted
          rw [gtEntryOf, if_neg (fun none => some (by simp [none]))]
          exact (Checked.accept.inj accepted).symm
      next press => contradiction
  next h => contradiction

theorem State.sys_of_checkSys {s : State} {entry : Nat} {bs : List Byte} {w : Write}
    (accepted : s.checkSys entry bs = .accept w) : entry = 0 ∧ w = .sys (parseSys bs).clamped := by
  simp only [State.checkSys, ite_refuse_eq_accept] at accepted
  obtain ⟨entry, -, -, accepted⟩ := accepted
  exact ⟨by simpa using entry, (Checked.accept.inj accepted).symm⟩

theorem State.acc_of_checkAcc {s : State} {entry : Nat} {bs : List Byte} {w : Write}
    (accepted : s.checkAcc entry bs = .accept w) :
    ∃ (h : entry < 4) (e : Option AccEntry), s.parseAcc bs = some e ∧ w = .acc ⟨entry, h⟩ e := by
  unfold State.checkAcc at accepted
  split at accepted
  next h =>
    simp only [ite_refuse_eq_accept] at accepted
    obtain ⟨-, accepted⟩ := accepted
    split at accepted
    next => contradiction
    next e parsed =>
      simp only [ite_refuse_eq_accept] at accepted
      obtain ⟨-, -, accepted⟩ := accepted
      exact ⟨h, e, parsed, (Checked.accept.inj accepted).symm⟩
  next h => contradiction

/-- A checked write is a write to the table and the entry that were named. -/
theorem State.named_of_checkWrite {s : State} {table entry : Nat} {bs : List Byte} {w : Write}
    (accepted : s.checkWrite table entry bs = .accept w) :
    w.table = table ∧ w.entry = entry ∧ entry < tableEntries table := by
  unfold State.checkWrite at accepted
  split at accepted
  · obtain ⟨h, _, _, _, _, _, _, rfl⟩ := State.checkCht_eq_accept.mp accepted
    exact ⟨rfl, rfl, h⟩
  · obtain ⟨h, rfl⟩ := lin_of_checkLin accepted
    exact ⟨rfl, rfl, h⟩
  · obtain ⟨h, rfl⟩ := crt_of_checkCrt accepted
    exact ⟨rfl, rfl, h⟩
  · obtain ⟨h, _, rfl⟩ := State.zt_of_checkZt accepted
    exact ⟨rfl, rfl, h⟩
  · obtain ⟨h, rfl⟩ := State.rt_of_checkRt accepted
    exact ⟨rfl, rfl, h⟩
  · obtain ⟨h, rfl⟩ := State.pt_of_checkPt accepted
    exact ⟨rfl, rfl, h⟩
  · obtain ⟨h, _, _, _, rfl⟩ := State.gt_of_checkGt accepted
    exact ⟨rfl, rfl, h⟩
  · obtain ⟨rfl, rfl⟩ := State.sys_of_checkSys accepted
    exact ⟨rfl, rfl, Nat.one_pos⟩
  · obtain ⟨h, _, _, rfl⟩ := State.acc_of_checkAcc accepted
    exact ⟨rfl, rfl, h⟩
  · contradiction

/-- A write that passed its checks leaves the projected table unique (R27). -/
theorem chtUnique_chtAfter {s : State} {table entry : Nat} {bs : List Byte} {w : Write}
    (accepted : s.checkWrite table entry bs = .accept w) (unique : chtUnique s.projectedCht) :
    chtUnique (chtAfter s.projectedCht w) := by
  by_cases cht : table = 0
  · subst cht
    obtain ⟨h, role, -, -, -, -, free, rfl⟩ := State.checkCht_eq_accept.mp accepted
    exact chtUnique_set unique free
  · rw [chtAfter_of_table _ (by rwa [(State.named_of_checkWrite accepted).1])]
    exact unique

theorem State.KeysUnique.now {s : State} (h : s.KeysUnique) : chtUnique s.tables.cht := h 0

theorem State.KeysUnique.projected {s : State} (h : s.KeysUnique) : chtUnique s.projectedCht := by
  have all := h s.agent.posted.length
  rwa [List.take_length, ← s.projectedCht_eq] at all

/-- A write applied from the head of the queue uses up the first of the tables to come. -/
theorem State.KeysSafe.applyHead {s : State} {w : Write} {ws : List Write} (queue : s.agent.posted = w :: ws)
    (h : s.KeysSafe) : (s.applyWrite w).postedDone.KeysSafe where
  unique := by
    intro k
    have next := h.unique (k + 1)
    simpa [queue, State.applyWrite_cht, State.applyWrite_posted] using next
  settled := by
    intro config
    rw [State.postedDone_mode, State.applyWrite_mode] at config
    simp [State.applyWrite_posted, h.settled config]

theorem State.KeysSafe.applyWhile {s : State} (f : Write → Bool) (h : s.KeysSafe) :
    (applyWhile f s.agent.posted s).KeysSafe :=
  applyWhile_keeps f (fun _ _ _ queue k => k.applyHead queue) _ s rfl h

/-- A checked write joins the queue in RUN. -/
theorem State.KeysSafe.post {s : State} {w : Write} (h : s.KeysSafe) (run : s.mode = .run)
    (next : chtUnique (chtAfter s.projectedCht w)) : (s.post w).KeysSafe where
  unique := by
    intro k
    show chtUnique (((s.agent.posted ++ [w]).take k).foldl chtAfter s.tables.cht)
    by_cases inside : k ≤ s.agent.posted.length
    · rw [List.take_append_of_le_length inside]
      exact h.unique k
    · rw [List.take_of_length_le (by simp; omega), List.foldl_append, ← s.projectedCht_eq]
      exact next
  settled := fun config => by
    have config : s.mode = .config := config
    rw [run] at config
    contradiction

/-- A checked write is applied at once: one to another table, or one in CONFIG, where none waits. -/
theorem State.KeysSafe.applyNow {s : State} {w : Write} (h : s.KeysSafe)
    (next : chtUnique (chtAfter s.projectedCht w)) (atOnce : w.table ≠ 0 ∨ s.mode = .config) :
    (s.applyWrite w).KeysSafe := by
  have quiet : (s.applyWrite w).mode = .config → (s.applyWrite w).agent.posted = [] := by
    rw [State.applyWrite_mode, State.applyWrite_posted]
    exact h.settled
  refine ⟨?_, quiet⟩
  rcases atOnce with other | config
  · have same : (s.applyWrite w).tables.cht = s.tables.cht := by
      rw [State.applyWrite_cht, chtAfter_of_table _ other]
    rw [State.KeysUnique, same, State.applyWrite_posted]
    exact h.unique
  · intro k
    have empty := h.settled config
    rw [State.projectedCht_eq, empty] at next
    simpa [State.applyWrite_cht, State.applyWrite_posted, empty] using next

end Sys2Proof.Machine

namespace Sys2Proof.Machine

open Sys2Proof

/-! ### Every operation keeps the keys safe (R27) -/

theorem State.KeysSafe.applyPeriodEnd {s : State} (h : s.KeysSafe) : s.applyPeriodEnd.KeysSafe :=
  (h.applyWhile Write.isHeat).applyWhile Write.isCht

theorem State.KeysSafe.runPeriod {s : State} (h : s.KeysSafe) : s.runPeriod.KeysSafe := by
  have due : ({ s with periodDue := false } : State).KeysSafe := h.same rfl rfl rfl
  exact ((due.only (Only.foldl State.periodZone_only allZones _) rfl).only
    (Only.foldl State.testCured_only allPresses _) rfl).applyPeriodEnd

theorem State.KeysSafe.settlePeriod {s : State} (h : s.KeysSafe) : s.settlePeriod.KeysSafe := by
  unfold State.settlePeriod
  split
  · exact h.runPeriod
  · exact h

theorem State.KeysSafe.kick {s : State} (h : s.KeysSafe) : s.kick.KeysSafe := h.only s.kick_only rfl

theorem State.KeysSafe.respond {s : State} (h : s.KeysSafe) (a : Addr) (tag op : Byte) (r : MgmtResult)
    (data : List Byte) : (s.respond a tag op r data).KeysSafe := h.same rfl rfl rfl

/-- A power-on state has empty tables and no write waiting (R1). -/
theorem State.KeysSafe.powerOn (s : State) (straps : BitVec 3) : (s.powerOn straps).KeysSafe where
  unique := by
    intro k i j _ active
    have idle : ∀ x : Fin 64, Tables.reset.cht[x].active = false := by decide
    have reset : ((s.powerOn straps).agent.posted.take k).foldl chtAfter (s.powerOn straps).tables.cht =
        Tables.reset.cht := by cases k <;> rfl
    rw [reset, idle] at active
    contradiction
  settled := fun _ => rfl

theorem State.okWith_fst (s : State) (data : List Byte) : (s.okWith data).1 = s := rfl

/-! #### Writes (R157, R158) -/

theorem State.takeWrite_sameKeys (s : State) (w : Write) : SameKeys s (s.takeWrite w) := by
  unfold State.takeWrite
  split
  · exact ⟨rfl, rfl, rfl⟩
  · exact ⟨rfl, rfl, rfl⟩

theorem SameKeys.projectedCht {s t : State} (h : SameKeys s t) : t.projectedCht = s.projectedCht := by
  rw [State.projectedCht_eq, State.projectedCht_eq, h.cht, h.posted]

theorem State.KeysSafe.doTableWrite {s : State} (h : s.KeysSafe) (table entry : Nat) (content : List Byte) :
    (s.doTableWrite table entry content).1.KeysSafe := by
  unfold State.doTableWrite
  split
  next => exact h
  next w accepted =>
    have taken := s.takeWrite_sameKeys w
    have next : chtUnique (chtAfter (s.takeWrite w).projectedCht w) := by
      rw [taken.projectedCht]
      exact chtUnique_chtAfter accepted h.unique.projected
    split
    next posts =>
      rw [Bool.and_eq_true, beq_iff_eq] at posts
      unfold State.postWrite
      split
      · exact h
      · exact ((taken.safe h).post (taken.mode.trans posts.1) next).applyWhile Write.isCht
    next atOnce =>
      refine (taken.safe h).applyNow next ?_
      cases mode : s.mode with
      | config => exact .inr (taken.mode.trans mode)
      | run => exact .inl fun cht => atOnce (by simp [mode, Write.posts, cht])

theorem State.KeysSafe.doTableWriteIfMarked {s : State} (h : s.KeysSafe) (i : Fin 4) (table entry : Nat)
    (content : List Byte) : (s.doTableWriteIfMarked i table entry content).1.KeysSafe := by
  unfold State.doTableWriteIfMarked
  split
  · exact h.doTableWrite table entry content
  · exact h

/-! #### Reads (R156, R159) -/

theorem State.readEntries_sameKeys (s : State) (i : Fin 4) (tag op : Byte) (table first count : Nat) :
    SameKeys s (s.readEntries i tag op table first count).1 := by
  simp only [State.readEntries]
  split
  · exact .refl s
  · split
    · exact .refl s
    · exact ⟨rfl, rfl, rfl⟩

theorem State.doTableRead_sameKeys (s : State) (i : Fin 4) (tag : Byte) (table first count : Nat) :
    SameKeys s (s.doTableRead i tag table first count).1 := by
  unfold State.doTableRead
  split
  · exact .refl s
  · exact s.readEntries_sameKeys i tag 5 table first count

theorem State.doTableReadMark_sameKeys (s : State) (i : Fin 4) (tag : Byte) (table entry : Nat) :
    SameKeys s (s.doTableReadMark i tag table entry).1 := by
  have read := s.readEntries_sameKeys i tag 6 table entry 1
  simp only [State.doTableReadMark]
  split
  · exact .refl s
  · split
    · exact read.trans ⟨rfl, rfl, rfl⟩
    · exact read

theorem State.doRecordRead_sameKeys (s : State) (i : Fin 4) (tag : Byte) (n : Number) :
    SameKeys s (s.doRecordRead i tag n).1 := by
  unfold State.doRecordRead
  split
  · exact .refl s
  · exact ⟨rfl, rfl, rfl⟩

/-! #### Mode (R162 to R164) -/

theorem State.KeysSafe.doModeRun {s : State} (h : s.KeysSafe) : s.doModeRun.1.KeysSafe := by
  have entered : ({ s with mode := .run, periodCount := 0 } : State).KeysSafe := ⟨h.unique, nofun⟩
  unfold State.doModeRun
  split
  · exact h
  · split
    · exact h
    · split
      · exact h
      · split
        · exact h
        · exact entered.only (State.weighGate_only _) rfl

/-- With no write waiting the mode becomes CONFIG (R163). -/
theorem State.KeysSafe.enterConfig {s : State} (h : s.KeysSafe) (empty : s.agent.posted = []) :
    s.enterConfig.KeysSafe := ⟨h.unique, fun _ => empty⟩

theorem State.KeysSafe.applyAllPosted {s : State} (h : s.KeysSafe) : s.applyAllPosted.KeysSafe :=
  h.applyWhile _

theorem State.allToIdle_sameKeys (s : State) : SameKeys s s.allToIdle :=
  .of_only (Only.foldl State.pressToIdle_only _ _) rfl

theorem State.stopPress_sameKeys (s : State) (p : PressNo) : SameKeys s (s.stopPress p) :=
  (SameKeys.of_only (s.haltIfEjecting_only p) rfl).trans (.of_only (State.finalise_only _ p _ _) rfl)

/-- A fold of operations that each keep the keys. -/
theorem SameKeys.foldl {α : Type} {f : State → α → State} (h : ∀ s x, SameKeys s (f s x)) :
    ∀ (l : List α) (s : State), SameKeys s (l.foldl f s) := by
  intro l
  induction l with
  | nil => exact fun s => .refl s
  | cons x xs ih => exact fun s => (h s x).trans (ih _)

theorem State.KeysSafe.modeStop {s : State} (h : s.KeysSafe) : s.modeStop.KeysSafe := by
  have applied := h.settlePeriod.applyAllPosted
  have stopped := (SameKeys.foldl State.stopPress_sameKeys s.settlePeriod.applyAllPosted.cycling
    s.settlePeriod.applyAllPosted).trans (State.allToIdle_sameKeys _)
  exact ((stopped.safe applied).enterConfig
    (stopped.posted.trans (State.applyAllPosted_posted _))).only (State.weighGate_only _) rfl

theorem State.KeysSafe.doModeStop {s : State} (h : s.KeysSafe) (force : Bool) :
    (s.doModeStop force).1.KeysSafe := by
  unfold State.doModeStop
  split
  · exact h
  · split
    · exact h
    · rw [State.okWith_fst]
      exact h.modeStop

theorem State.discardAll_sameKeys (s : State) : SameKeys s s.discardAll :=
  SameKeys.trans (t := { s with charges := [] }) ⟨rfl, rfl, rfl⟩
    (.foldl (fun s e => .of_only (s.recordCharge_only e _) rfl) _ _)

theorem State.restartRecords_sameKeys (s : State) : SameKeys s.settlePeriod.applyAllPosted s.restartRecords :=
  (SameKeys.foldl (fun s p => .of_only (s.finalise_only p .aborted .idle) rfl) _ _).trans
    (State.discardAll_sameKeys _)

/-- RESTART's steps 3 to 6 keep the posted-write queue (R164). -/
theorem State.restartRest_sameKeys (s : State) :
    SameKeys s s.restartDrains.restartAgent.restartNotices := ⟨rfl, rfl, rfl⟩

theorem State.KeysSafe.doRestart {s : State} (h : s.KeysSafe) : s.doRestart.1.KeysSafe := by
  have kept := (s.restartRecords_sameKeys.trans (State.allToIdle_sameKeys _)).trans
    (State.restartRest_sameKeys _)
  rw [State.doRestart, State.okWith_fst, State.restart]
  exact ((kept.safe h.settlePeriod.applyAllPosted).enterConfig
    (kept.posted.trans (State.applyAllPosted_posted _))).only (State.restartWeigh_only _) rfl

/-! #### The other operations, which touch no channel key -/

theorem State.doCensusStart_sameKeys (s : State) : SameKeys s s.doCensusStart.1 := by
  unfold State.doCensusStart
  split
  · exact .refl s
  · split
    · exact .refl s
    · simp only [State.censusBegin, State.okWith]
      split
      · refine SameKeys.trans ?_ (.of_only (State.censusComplete_only _) rfl)
        exact ⟨rfl, rfl, rfl⟩
      · exact ⟨rfl, rfl, rfl⟩

theorem State.doPressAssign_sameKeys (s : State) (press recipe : Nat) :
    SameKeys s (s.doPressAssign press recipe).1 := by
  have assign (p : PressNo) (r : RecipeNo) : SameKeys s (s.assign p r) :=
    ((SameKeys.of_only (s.updPress_only p _) rfl).trans (.of_only (State.clearZones_only _ p _) rfl)).trans
      (.of_only (State.setPressState_only _ p _) rfl)
  unfold State.doPressAssign
  split
  · split
    · exact .refl s
    · split
      · unfold State.assignNone
        split
        · exact .of_only (s.pressToIdle_only _) rfl
        · exact .refl s
      · split
        · unfold State.assignRecipe
          split
          · exact .refl s
          · split
            · exact .refl s
            · exact assign _ _
        · exact .refl s
  · exact .refl s

theorem State.endPress_sameKeys (s : State) (press : Nat) (d : Disposition) : SameKeys s (s.endPress press d).1 := by
  unfold State.endPress
  split
  · split
    · exact (SameKeys.of_only (s.haltIfEjecting_only _) rfl).trans (.of_only (State.finalise_only _ _ d .ready) rfl)
    · exact .refl s
  · exact .refl s

theorem State.weighRecipeTo_sameKeys (s : State) (r : Option RecipeNo) : SameKeys s (s.weighRecipeTo r).1 := by
  unfold State.weighRecipeTo
  split
  · exact .refl s
  · refine SameKeys.trans ?_ (.of_only (State.weighGate_only _) rfl)
    exact ⟨rfl, rfl, rfl⟩

theorem State.doWeighRecipe_sameKeys (s : State) (recipe : Nat) : SameKeys s (s.doWeighRecipe recipe).1 := by
  unfold State.doWeighRecipe
  split
  · exact s.weighRecipeTo_sameKeys none
  · split
    · split
      · exact s.weighRecipeTo_sameKeys _
      · exact .refl s
    · exact .refl s

/-- WEIGH TARE writes the zero of SYS and no other table (R82). -/
theorem State.doWeighTare_sameKeys (s : State) : SameKeys s s.doWeighTare.1 := by
  unfold State.doWeighTare
  split
  · exact ⟨rfl, rfl, rfl⟩
  · exact .refl s

theorem State.doChargeDiscard_sameKeys (s : State) (n : ChargeNo) : SameKeys s (s.doChargeDiscard n).1 := by
  unfold State.doChargeDiscard
  split
  · exact .refl s
  · refine SameKeys.trans ?_ (.of_only (State.recordCharge_only _ _ .discarded) rfl)
    exact ⟨rfl, rfl, rfl⟩

theorem State.doDrainStart_sameKeys (s : State) (src : Addr) (mode count : Nat) :
    SameKeys s (s.doDrainStart src mode count).1 := by
  unfold State.doDrainStart
  split
  · exact .refl s
  · split
    · exact .refl s
    · split
      · exact .refl s
      · exact .of_only (s.startRun_only src _ count) rfl

theorem State.doDrainStop_sameKeys (s : State) : SameKeys s s.doDrainStop.1 := by
  unfold State.doDrainStop
  split
  · exact .of_only (s.endRun_only .stopped) rfl
  · exact .refl s

theorem State.doRelease_sameKeys (s : State) (n : Number) : SameKeys s (s.doRelease n).1 := by
  unfold State.doRelease
  split
  · exact .refl s
  · exact .of_only (s.releaseTo_only _) rfl

/-! #### Requests (R150) -/

theorem State.KeysSafe.perform {s : State} (h : s.KeysSafe) (i : Fin 4) (src : Addr) (tag : Byte) (r : Req) :
    (s.perform i src tag r).1.KeysSafe := by
  cases r with
  | ident => exact h
  | status => exact h.same rfl rfl rfl
  | counters => exact h.same rfl rfl rfl
  | noticeEnable m => exact h.same rfl rfl rfl
  | tableRead t f c => exact (s.doTableRead_sameKeys i tag t f c).safe h
  | tableReadMark t e => exact (s.doTableReadMark_sameKeys i tag t e).safe h
  | tableWrite t e c => exact h.doTableWrite t e c
  | tableWriteIfMarked t e c => exact h.doTableWriteIfMarked i t e c
  | modeRun => exact h.doModeRun
  | modeStop f => exact h.doModeStop f
  | restart => exact h.doRestart
  | censusStart => exact s.doCensusStart_sameKeys.safe h
  | pressAssign p r => exact (s.doPressAssign_sameKeys p r).safe h
  | pressAbort p => exact (s.endPress_sameKeys p .aborted).safe h
  | pressScrap p => exact (s.endPress_sameKeys p .scrap).safe h
  | weighRecipe r => exact (s.doWeighRecipe_sameKeys r).safe h
  | weighTare => exact s.doWeighTare_sameKeys.safe h
  | chargeDiscard n => exact (s.doChargeDiscard_sameKeys n).safe h
  | drainStart m c => exact (s.doDrainStart_sameKeys src m c).safe h
  | drainStop => exact s.doDrainStop_sameKeys.safe h
  | release n => exact (s.doRelease_sameKeys n).safe h
  | recordRead n => exact (s.doRecordRead_sameKeys i tag n).safe h
  | serialBase v => exact h.same rfl rfl rfl

theorem State.KeysSafe.finish {x : State × Answer} (h : x.1.KeysSafe) (src : Addr) (tag op : Byte) :
    (finish src tag op x).KeysSafe := by
  unfold Machine.finish
  split
  · exact h.respond src tag op _ _
  · exact h

theorem State.KeysSafe.decideReq {s : State} (h : s.KeysSafe) (src : Addr) (tag op : Byte) (req : Option Req) :
    (s.decideReq src tag op req).KeysSafe := by
  unfold State.decideReq
  split
  · exact h.respond src tag op _ _
  · split
    · exact h.respond src tag op _ _
    · split
      · exact h.respond src tag op _ _
      · unfold State.carryOut
        split
        · exact h.respond src tag op _ _
        · split
          · exact (h.perform _ src tag _).finish src tag op
          · exact h.respond src tag op _ _

theorem State.KeysSafe.count {s : State} (h : s.KeysSafe) (c : Fin 12) : (s.count c).KeysSafe :=
  h.only (s.count_only c) rfl

theorem State.KeysSafe.request {s : State} (h : s.KeysSafe) (src : Addr) (tag : Byte) (r : Req) :
    (s.request src tag r).KeysSafe := by
  unfold State.request
  split
  · exact h.count 8
  · exact h.decideReq src tag _ _

theorem State.KeysSafe.takeMreq {s : State} (h : s.KeysSafe) (f : Frame) : (s.takeMreq f).KeysSafe := by
  unfold State.takeMreq
  split
  · exact h.count 8
  · unfold State.decidePayload
    split
    · exact h.decideReq _ _ _ _
    · exact h.count 8
    · exact h.count 8

/-! #### Frames on the line (R6, R7) -/

theorem State.KeysSafe.uFrame {s : State} (h : s.KeysSafe) (c : CheckResult) : (s.uFrame c).KeysSafe := by
  have watched (f : Frame) : (s.watchSync f).KeysSafe := by
    unfold State.watchSync
    split
    · exact h.only s.syncArrival_only rfl
    · exact h
  cases c with
  | framing => exact h.count 1
  | crc => exact h.count 0
  | good f =>
    show (s.uGood f).KeysSafe
    unfold State.uGood
    split
    · unfold State.ownFrame
      split
      · exact (watched f).takeMreq f
      · exact (watched f).count 1
    · unfold State.downTraffic
      split
      · exact (watched f).only (State.overrun_only _ _ _) rfl
      · split
        · exact (watched f).only (State.presentCmd_only _ f) rfl
        · exact (watched f).only (State.pushDown_only _ f) rfl

theorem State.KeysSafe.uSymbol {s : State} (h : s.KeysSafe) (x : Symbol) : (s.uSymbol x).KeysSafe := by
  have fed : ({ s with line := { s.line with uChk := (s.line.uChk.feed x).1 } } : State).KeysSafe :=
    h.same rfl rfl rfl
  simp only [State.uSymbol]
  split
  · exact fed
  · exact (fed.uFrame _).kick

theorem State.upTraffic_sameKeys (s : State) (f : Frame) : SameKeys s (s.upTraffic f) := by
  unfold State.upTraffic
  split
  · exact .of_only (s.overrun_only 5 1) rfl
  · exact ⟨rfl, rfl, rfl⟩

theorem State.KeysSafe.dFrame {s : State} (h : s.KeysSafe) (c : CheckResult) : (s.dFrame c).KeysSafe := by
  have bad {t : State} (k : t.KeysSafe) : t.lossBad.KeysSafe := k.only t.lossBad_only rfl
  cases c with
  | framing => exact bad (h.count 4)
  | crc => exact bad (h.count 3)
  | good f =>
    have good := h.only s.lossGood_only rfl
    show (if s.wrongSide f then (s.count 4).lossBad else s.lossGood.dTraffic f).KeysSafe
    split
    · exact bad (h.count 4)
    · unfold State.dTraffic
      split
      · exact good.only (State.censusNext_only _ true) rfl
      · split
        · exact (State.upTraffic_sameKeys _ f).safe (good.only (State.classify_only _ f) rfl)
        · exact (State.upTraffic_sameKeys _ f).safe good

theorem State.KeysSafe.dSymbol {s : State} (h : s.KeysSafe) (x : Symbol) : (s.dSymbol x).KeysSafe := by
  have fed : ({ s with line := { s.line with dChk := (s.line.dChk.feed x).1 } } : State).KeysSafe :=
    h.same rfl rfl rfl
  simp only [State.dSymbol]
  split
  · exact fed
  · exact (fed.dFrame _).kick

theorem State.KeysSafe.dOutEnd {s : State} (h : s.KeysSafe) : s.dOutEnd.KeysSafe := by
  unfold State.dOutEnd
  split
  next => exact h
  next x _ =>
    have idle : ({ s with line := { s.line with dOut := none } } : State).KeysSafe :=
      h.same rfl rfl rfl
    cases x.source with
    | halt | burst | release => exact idle
    | probe =>
      rw [State.dSent, State.probeSent]
      split
      · exact idle.same rfl rfl rfl
      · exact idle
    | drain1 =>
      simp only [State.dSent, State.recordSent]
      split
      · exact idle.same rfl rfl rfl
      · exact idle.same rfl rfl rfl
    | down =>
      simp only [State.dSent, State.downSent]
      split
      next => exact idle
      next d rest _ =>
        have released : (State.releaseHalt { s with line := { s.line with dOut := none, down := rest } }
            d.awaitedBy).KeysSafe := by
          unfold State.releaseHalt
          split
          · exact h.same rfl rfl rfl
          · exact h.same rfl rfl rfl
        split
        · exact (released.settlePeriod.only (State.makeBurst_only _) rfl).only (State.countDeparture_only _ _) rfl
        · exact released

theorem State.uOutEnd_sameKeys (s : State) : SameKeys s s.uOutEnd := by
  unfold State.uOutEnd
  split
  next => exact .refl s
  next x _ =>
    cases x.source with
    | up | response | notice => exact ⟨rfl, rfl, rfl⟩
    | drain0 =>
      rw [State.uSent]
      split
      · exact SameKeys.trans (t := { s with line := { s.line with uOut := none } }) ⟨rfl, rfl, rfl⟩
          (.of_only (State.endRun_only _ .count) rfl)
      · exact ⟨rfl, rfl, rfl⟩

/-! #### The part's own events -/

theorem State.acceptGuard_sameKeys (s : State) (n : Fin 4) : SameKeys s (s.acceptGuard n) := by
  simp only [State.acceptGuard]
  split
  · have set := SameKeys.of_only (s.setGuard_only n
      { accepted := s.guard[n].accepted.other, run := 0, due := false }) rfl
    split
    · exact set.trans (.of_only (State.guardOpening_only _ n) rfl)
    · exact set
  · exact .refl s

theorem State.sampleGuards_sameKeys (s : State) (levels : BitVec 4) : SameKeys s (s.sampleGuards levels) :=
  SameKeys.trans (t := { s with gdLevels := levels }) ⟨rfl, rfl, rfl⟩
    (.foldl (fun s n => (s.acceptGuard_sameKeys n).trans (.of_only (State.setGuard_only _ n _) rfl)) _ _)

theorem State.flagCuring_sameKeys (s : State) (p : PressNo) : SameKeys s (s.flagCuring p) := by
  unfold State.flagCuring
  split
  · exact .of_only (s.flagSyncLost_only p) rfl
  · exact .refl s

/-- The move to SYNC_LOST takes a control period that is due first (R17, log 8). -/
theorem State.KeysSafe.syncTimeout {s : State} (h : s.KeysSafe) : s.syncTimeout.KeysSafe := by
  unfold State.syncTimeout
  split
  · have settled := h.settlePeriod
    unfold State.syncExpired
    generalize s.settlePeriod = t at settled ⊢
    exact (SameKeys.foldl State.flagCuring_sameKeys allPresses _).safe (settled.same rfl rfl rfl)
  · exact h

theorem State.silenceTimeout_sameKeys (s : State) : SameKeys s s.silenceTimeout := by
  unfold State.silenceTimeout
  split
  · exact SameKeys.trans (t := { s with loss := { s.loss with timer := none } }) ⟨rfl, rfl, rfl⟩
      (.of_only (State.lossCause_only _ false) rfl)
  · exact .refl s

theorem State.windowExpiry_sameKeys (s : State) : SameKeys s s.windowExpiry := by
  unfold State.windowExpiry
  split
  · exact .of_only (s.censusNext_only false) rfl
  · exact .refl s

theorem State.targetExpiry_sameKeys (s : State) (t : TargetNo) : SameKeys s (s.targetExpiry t) := by
  unfold State.targetExpiry
  split
  · exact .of_only (s.setTarget_only t _) rfl
  · exact .refl s

theorem State.chargeExpiry_sameKeys (s : State) (n : ChargeNo) : SameKeys s (s.chargeExpiry n) := by
  unfold State.chargeExpiry
  split
  · exact .refl s
  · split
    · exact .of_only (s.expireCharge_only _) rfl
    · exact .refl s

theorem State.closeExpiry_sameKeys (s : State) (p : PressNo) : SameKeys s (s.closeExpiry p) := by
  unfold State.closeExpiry
  split
  · exact (SameKeys.of_only (s.updCycle_only p _) rfl).trans (.of_only (State.finalise_only _ p _ _) rfl)
  · exact .refl s

theorem State.dwellExpiry_sameKeys (s : State) (p : PressNo) : SameKeys s (s.dwellExpiry p) := by
  unfold State.dwellExpiry
  split
  · exact (SameKeys.of_only (s.updPress_only p _) rfl).trans (.of_only (State.testCured_only _ p) rfl)
  · exact .refl s

theorem State.holdExpiry_sameKeys (s : State) (p : PressNo) : SameKeys s (s.holdExpiry p) := by
  unfold State.holdExpiry
  split
  · exact (SameKeys.of_only (s.updPress_only p _) rfl).trans (.of_only (State.raise_only _ _ _ _) rfl)
  · exact .refl s

theorem State.openExpiry_sameKeys (s : State) (p : PressNo) : SameKeys s (s.openExpiry p) := by
  unfold State.openExpiry
  split
  · exact ((SameKeys.of_only (s.updPress_only p _) rfl).trans (.of_only (State.updCycle_only _ p _) rfl)).trans
      (.of_only (State.raise_only _ _ _ _) rfl)
  · exact .refl s

theorem State.ejectExpiry_sameKeys (s : State) (p : PressNo) : SameKeys s (s.ejectExpiry p) := by
  unfold State.ejectExpiry
  split
  · exact .of_only (s.enterStuck_only p .timeout) rfl
  · exact .refl s

theorem State.paceExpiry_sameKeys (s : State) : SameKeys s s.paceExpiry := by
  unfold State.paceExpiry
  split
  · exact ⟨rfl, rfl, rfl⟩
  · exact .refl s

theorem State.longRead_sameKeys (s : State) : SameKeys s s.longRead := by
  unfold State.longRead
  split
  · exact .refl s
  · split
    · exact .refl s
    · exact ⟨rfl, rfl, rfl⟩

theorem State.tick_sameKeys (s : State) : SameKeys s s.tick := by
  unfold State.tick
  split
  · split
    · exact ⟨rfl, rfl, rfl⟩
    · exact ⟨rfl, rfl, rfl⟩
  · exact .refl s

/-! #### The step -/

theorem State.KeysSafe.event {f : State → State} {s t : State} (h : s.KeysSafe)
    (taken : event f s = .next t) (k : (f s).KeysSafe) : t.KeysSafe := by
  unfold Machine.event at taken
  split at taken
  · cases taken
    exact k.kick
  · cases taken
    exact h

theorem State.KeysSafe.management {src : Addr} {tag : Byte} {r : Req} {s t : State} (h : s.KeysSafe)
    (taken : management src tag r s = .next t) : t.KeysSafe := h.event taken (h.request src tag r)

theorem State.KeysSafe.receive {take : State → Symbol → State}
    (each : ∀ (s : State) (x : Symbol), s.KeysSafe → (take s x).KeysSafe) {symbols : List Symbol} {s t : State}
    (h : s.KeysSafe) (taken : receive take symbols s = .next t) : t.KeysSafe := by
  unfold Machine.receive at taken
  split at taken
  · cases taken
    exact List.foldlRecOn symbols take h fun u k x _ => each u x k
  · cases taken
    exact h

theorem State.KeysSafe.exec {c : Instr} {s t : State} (h : s.KeysSafe) (taken : exec c s = .next t) :
    t.KeysSafe := by
  cases c with
  | powerOn straps =>
    cases taken
    exact .powerOn s straps
  | resetAssert =>
    cases taken
    exact h.same rfl rfl rfl
  | uInFrame symbols => exact h.receive (fun _ x k => k.uSymbol x) taken
  | dInFrame symbols => exact h.receive (fun _ x k => k.dSymbol x) taken
  | dOutEnd => exact h.event taken h.dOutEnd
  | uOutEnd => exact h.event taken (s.uOutEnd_sameKeys.safe h)
  | controlPeriod => exact h.event taken h.settlePeriod
  | guardSample levels =>
    have sampled : (s.sampleGuards levels).KeysSafe := (s.sampleGuards_sameKeys levels).safe h
    exact h.event (f := fun s => s.sampleGuards levels) taken sampled
  | guardLevelAccepted n => exact h.event taken ((s.acceptGuard_sameKeys n).safe h)
  | syncTimeout => exact h.event taken h.syncTimeout
  | silenceTimeout => exact h.event taken (s.silenceTimeout_sameKeys.safe h)
  | censusWindowExpiry => exact h.event taken (s.windowExpiry_sameKeys.safe h)
  | targetAgeExpiry x => exact h.event taken ((s.targetExpiry_sameKeys x).safe h)
  | weighSignalCheck => exact h.event taken (h.only s.weighCheck_only rfl)
  | chargeExpired n => exact h.event (f := fun s => s.chargeExpiry n) taken ((s.chargeExpiry_sameKeys n).safe h)
  | closeTimerExpiry p => exact h.event taken ((s.closeExpiry_sameKeys p).safe h)
  | dwellTimerExpiry p => exact h.event taken ((s.dwellExpiry_sameKeys p).safe h)
  | openHoldExpired p => exact h.event taken ((s.holdExpiry_sameKeys p).safe h)
  | openTimeout p => exact h.event taken ((s.openExpiry_sameKeys p).safe h)
  | ejectTimerExpiry p => exact h.event taken ((s.ejectExpiry_sameKeys p).safe h)
  | paceTimerExpiry => exact h.event taken (s.paceExpiry_sameKeys.safe h)
  | longReadPart => exact h.event taken (s.longRead_sameKeys.safe h)
  | ident src tag | status src tag | counters src tag | noticeEnable src tag _ | tableRead src tag _ _ _
  | tableReadMark src tag _ _ | tableWrite src tag _ _ _ | tableWriteIfMarked src tag _ _ _ | modeRun src tag
  | modeStop src tag _ | restart src tag | censusStart src tag | pressAssign src tag _ _ | pressAbort src tag _
  | pressScrap src tag _ | weighRecipe src tag _ | weighTare src tag | chargeDiscard src tag _
  | drainStart src tag _ _ | drainStop src tag | release src tag _ | recordRead src tag _
  | serialBase src tag _ => exact h.management taken

theorem State.KeysSafe.step {s t : State} (h : s.KeysSafe) (taken : step s = .next t) : t.KeysSafe := by
  unfold Machine.step at taken
  split at taken
  next c rest _ => exact (h.same (t := s.withPending rest) rfl rfl rfl).exec taken
  next =>
    cases taken
    exact s.tick_sameKeys.safe h

/-- Settles O59: the uniqueness of the keys, strengthened by the empty queue of CONFIG, is kept by every step; a
write is checked against the table that the posted writes will make, and each of them uses that table up. -/
theorem channelKeysStayUnique : Obligations.ChannelKeysStayUnique := by
  intro s t quiet unique taken
  have safe : s.KeysSafe := ⟨unique, fun config => (quiet config).2⟩
  exact (safe.step taken).unique

end Sys2Proof.Machine

/-! ## Laws of the classifier (02) -/

namespace Sys2Proof.Machine

open Sys2Proof

/-! ### Owners of good readings (Table 21) -/

theorem State.updZone_eq (s : State) (z : ZoneNo) (f : ZoneRecord → ZoneRecord) :
    s.updZone z f = { s with zones := s.zones.set z (f s.zones[z]) } := rfl

theorem State.ownerReading_zoneTc (s : State) (z : ZoneNo) (v : Nat) :
    s.ownerReading .zoneTc z.val v = s.zoneReading z v := dif_pos z.isLt

theorem State.ownerReading_platen (s : State) (p : PressNo) (v : Nat) :
    s.ownerReading .platen p.val v = s.platenReading p v := dif_pos p.isLt

theorem State.ownerReading_ejectPos (s : State) (p : PressNo) (v : Nat) :
    s.ownerReading .ejectPos p.val v = s.posReading p v := dif_pos p.isLt

theorem State.ownerReading_ejectForce (s : State) (p : PressNo) (v : Nat) :
    s.ownerReading .ejectForce p.val v = s.forceReading p v := dif_pos p.isLt

/-! ### A zone's reading and its reconversion (R41, R44, R46) -/

theorem State.zoneCuring_iff (s : State) (z : ZoneNo) :
    s.zoneCuring z = true ↔ ∃ p : PressNo, s.pressOf z = some p ∧ s.presses[p].state = .curing := by
  unfold State.zoneCuring
  cases s.pressOf z with
  | none => simp
  | some p => simp

theorem lowerOf_eq (m : Option Int) (t : Int) : lowerOf m t = some (m.elim t (min t)) := by
  cases m with
  | none => rfl
  | some m => exact congrArg some (min_comm m t)

theorem higherOf_eq (m : Option Int) (t : Int) : higherOf m t = some (m.elim t (max t)) := by
  cases m with
  | none => rfl
  | some m => exact congrArg some (max_comm m t)

/-- A reading without a temperature, or outside CURING, leaves the cycle fields. -/
theorem State.zoneReading_plain {s : State} {z : ZoneNo} {r : Nat}
    (plain : (s.convertFor z r).1 = none ∨ ¬s.zoneCuring z = true) :
    s.zoneReading z r =
      s.updZone z (fun q => { q with temp := (s.convertFor z r).1, range := (s.convertFor z r).2 }) := by
  simp only [State.zoneReading]
  congr 1
  funext q
  split
  next curing =>
    have absent := plain.resolve_right (fun out => out curing)
    simp only [updateExtremes, absent]
  next => rfl

theorem State.zoneReading_curing {s : State} {z : ZoneNo} {r : Nat} {t : Int}
    (temp : (s.convertFor z r).1 = some t) (curing : s.zoneCuring z = true) :
    s.zoneReading z r = s.updZone z (fun q => { q with
      temp := some t, range := (s.convertFor z r).2,
      cycMin := some (q.cycMin.elim t (min t)), cycMax := some (q.cycMax.elim t (max t)),
      underSeen := q.underSeen || (s.convertFor z r).2 == .under,
      overSeen := q.overSeen || (s.convertFor z r).2 == .over }) := by
  simp only [State.zoneReading, curing, if_true, temp, updateExtremes, lowerOf_eq, higherOf_eq]

theorem State.reconvert_of_raw {s : State} {z : ZoneNo} {r : Nat} (raw : s.targets[zoneTarget z].raw? = some r) :
    s.reconvert z =
      s.updZone z (fun q => { q with temp := (s.convertFor z r).1, range := (s.convertFor z r).2 }) := by
  simp only [State.reconvert, raw]

theorem State.reconvert_of_no_raw {s : State} {z : ZoneNo} (raw : s.targets[zoneTarget z].raw? = none) :
    s.reconvert z = s := by
  simp only [State.reconvert, raw]

/-! ### The readings of a frame (R30 to R34) -/

theorem classifiable_iff (payload : List Byte) :
    classifiable payload = true ↔ payload.length % 4 = 0 ∧ payload ≠ [] ∧ payload.length ≤ 32 := by
  have empty : payload = [] ↔ payload.length = 0 := List.length_eq_zero_iff.symm
  simp only [classifiable, Bool.and_eq_true, beq_iff_eq, decide_eq_true_eq, ne_eq, empty]
  omega

theorem classifiable_one (c st hi lo : Byte) : classifiable [c, st, hi, lo] = true := by simp [classifiable]

theorem State.classify_of_not {s : State} {f : Frame} (h : ¬classifiable f.payload = true) : s.classify f = s := by
  rw [State.classify, if_neg h]

theorem State.classify_of {s : State} {f : Frame} (h : classifiable f.payload = true) :
    s.classify f = (parseReadings f.payload).foldl (State.classifyReading f.srcAddr) s := by
  rw [State.classify, if_pos h]

/-- A frame of one reading. -/
theorem State.classify_one {s : State} {f : Frame} {c st hi lo : Byte} (h : f.payload = [c, st, hi, lo]) :
    s.classify f = State.classifyReading f.srcAddr s
      { channel := c.toNat, status := st, value := hi.toNat * 256 + lo.toNat } := by
  rw [State.classify_of (by rw [h, classifiable_one]), h]
  simp [parseReadings, ofBytes]

/-- The readings of a frame are taken one after the other (R33). -/
theorem State.classify_cons {s : State} {f : Frame} {c st hi lo : Byte} {rest : List Byte}
    (h : f.payload = c :: st :: hi :: lo :: rest) (more : rest ≠ []) (whole : rest.length % 4 = 0)
    (short : rest.length ≤ 28) :
    s.classify f = (s.classify { f with payload := [c, st, hi, lo] }).classify { f with payload := rest } := by
  have all : classifiable f.payload = true := by
    rw [classifiable_iff, h]
    exact ⟨by simp; omega, nofun, by simp; omega⟩
  have one := classifiable_one c st hi lo
  have others : classifiable rest = true := (classifiable_iff rest).mpr ⟨whole, more, by omega⟩
  rw [State.classify_of all, State.classify_of (f := { f with payload := [c, st, hi, lo] }) one,
    State.classify_of (f := { f with payload := rest }) others, h]
  rfl

/-- The first entry of an ascending search. -/
theorem find?_finRange_eq_some {n : Nat} {p : Fin n → Bool} {i : Fin n} :
    (List.finRange n).find? p = some i ↔ p i = true ∧ ∀ j < i, p j = false := by
  rw [← Fin.find?_eq_find?_finRange, Fin.find?_eq_some_iff]

theorem Tables.lookup_eq_some {t : Tables} {a : Addr} {c : Nat} {i : Fin 64} :
    t.lookup a c = some i ↔
      (t.cht[i].role ≠ .none ∧ t.cht[i].node = a ∧ t.cht[i].channel = c) ∧
        ∀ j : Fin 64, j < i → t.cht[j].role ≠ .none → t.cht[j].node = a → t.cht[j].channel ≠ c := by
  rw [Tables.lookup, allCht, find?_finRange_eq_some]
  simp [ChtEntry.active, and_assoc]

theorem Tables.lookup_eq_none {t : Tables} {a : Addr} {c : Nat} :
    t.lookup a c = none ↔
      ∀ i : Fin 64, t.cht[i].role ≠ .none → t.cht[i].node = a → t.cht[i].channel ≠ c := by
  simp [Tables.lookup, allCht, ChtEntry.active, List.find?_eq_none]

theorem State.sensorFault_of_not_zoneTc {s : State} {e : ChtEntry} (h : e.role ≠ .zoneTc) : s.sensorFault e = s := by
  unfold State.sensorFault
  split
  next zone => exact absurd zone h
  all_goals rfl

theorem State.sensorFault_zoneTc {s : State} {e : ChtEntry} {z : ZoneNo} (role : e.role = .zoneTc)
    (index : e.index = z.val) : s.sensorFault e = s.updZone z (fun q => { q with sensorFault := true }) := by
  obtain ⟨n, c, r, i, u⟩ := e
  subst role index
  exact dif_pos z.isLt

theorem State.handReading_of_target {s : State} {e : ChtEntry} {t : TargetNo} {v : Nat} (h : e.target = some t) :
    s.handReading e v =
      (s.setTarget t (.fresh v s.now (10 * e.ageUnits))).ownerReading e.role e.index v := by
  simp only [State.handReading, h]

theorem State.classifyReading_of_none {s : State} {a : Addr} {r : Reading}
    (h : s.tables.lookup a r.channel = none) : State.classifyReading a s r = s := by
  simp only [State.classifyReading, h]

theorem State.classifyReading_of_some {s : State} {a : Addr} {r : Reading} {i : Fin 64}
    (h : s.tables.lookup a r.channel = some i) :
    State.classifyReading a s r =
      if r.status.getLsbD 0 = true then s.sensorFault s.tables.cht[i]
      else s.handReading s.tables.cht[i] r.value := by
  simp only [State.classifyReading, h]

/-! ### The age of a target (R35) -/

theorem exec_targetAgeExpiry {s : State} (t : TargetNo) (high : s.rstn = true) :
    exec (.targetAgeExpiry t) s = .next (s.targetExpiry t).kick := by
  show event (fun s => s.targetExpiry t) s = _
  rw [event, if_pos high]

theorem State.targetExpiry_of_aged {s : State} {t : TargetNo} (h : s.targets[t].aged s.now = true) :
    s.targetExpiry t = s.setTarget t s.targets[t].age := if_pos h

theorem State.targetExpiry_of_not_aged {s : State} {t : TargetNo} (h : ¬s.targets[t].aged s.now = true) :
    s.targetExpiry t = s := if_neg h

/-! ### The obligation -/

/-- The conversion of a zone's reading and of its last raw count (R41, R44, R46). -/
theorem zoneReadings (s : State) (z : ZoneNo) (r : Nat) :
    let q := s.zones[z]
    let c := convert s.tables.lin[s.tables.zt[z].curve] s.tables.zt[z].offset r
    let put (x : ZoneRecord) : State := { s with zones := s.zones.set z x }
    let curing := ∃ p : PressNo, s.pressOf z = some p ∧ s.presses[p].state = .curing
    (c.1 = none ∨ ¬curing → s.ownerReading .zoneTc z.val r = put { q with temp := c.1, range := c.2 }) ∧
    (∀ t : Int, c.1 = some t → curing → s.ownerReading .zoneTc z.val r = put { q with
      temp := some t, range := c.2,
      cycMin := some (q.cycMin.elim t (min t)), cycMax := some (q.cycMax.elim t (max t)),
      underSeen := q.underSeen || c.2 == .under, overSeen := q.overSeen || c.2 == .over }) ∧
    (∀ a m, s.targets[zoneTarget z] = .fresh r a m ∨ s.targets[zoneTarget z] = .stale r a →
      s.reconvert z = put { q with temp := c.1, range := c.2 }) ∧
    (s.targets[zoneTarget z] = .unrefreshed ∨ s.targets[zoneTarget z] = .unbound → s.reconvert z = s) := by
  refine ⟨fun plain => ?_, fun t temp curing => ?_, fun a m held => ?_, fun bare => ?_⟩
  · rw [← State.zoneCuring_iff] at plain
    rw [State.ownerReading_zoneTc, State.zoneReading_plain plain]
    rfl
  · rw [← State.zoneCuring_iff] at curing
    rw [State.ownerReading_zoneTc, State.zoneReading_curing temp curing]
    rfl
  · refine State.reconvert_of_raw ?_
    rcases held with fresh | stale
    · rw [fresh, Target.raw?]
    · rw [stale, Target.raw?]
  · refine State.reconvert_of_no_raw ?_
    rcases bare with unrefreshed | unbound
    · rw [unrefreshed, Target.raw?]
    · rw [unbound, Target.raw?]

/-- Settles O32: the owner of each reading by the role's index, the zone's conversion with and without CURING, the
readings of a frame one after the other, each by the first active entry of its key, and the two outcomes of a
target's age. -/
theorem readingsAndTargets : Obligations.ReadingsAndTargets := by
  refine ⟨fun s v => ⟨rfl, fun p => ⟨s.ownerReading_platen p v, s.ownerReading_ejectPos p v,
    s.ownerReading_ejectForce p v⟩⟩, zoneReadings, fun s f => ⟨fun bad => ?_, fun c st hi lo rest => ?_,
    fun c st hi lo payload => ⟨fun absent => ?_, fun i active node channel first => ?_⟩⟩, fun s t high => ?_⟩
  · refine State.classify_of_not fun fits => ?_
    obtain ⟨whole, some, short⟩ := (classifiable_iff _).mp fits
    rcases bad with odd | empty | long
    · exact odd whole
    · exact some empty
    · omega
  · exact State.classify_cons
  · rw [State.classify_one payload, State.classifyReading_of_none (Tables.lookup_eq_none.mpr absent)]
  · have found := State.classifyReading_of_some (s := s) (a := f.srcAddr)
      (r := { channel := c.toNat, status := st, value := hi.toNat * 256 + lo.toNat })
      (Tables.lookup_eq_some.mpr ⟨⟨active, node, channel⟩, first⟩)
    rw [State.classify_one payload, found]
    refine ⟨fun fault other => ?_, fun z fault role index => ?_, fun x good target => ?_⟩
    · rw [if_pos fault, State.sensorFault_of_not_zoneTc other]
    · rw [if_pos fault, State.sensorFault_zoneTc role index]
      rfl
    · rw [if_neg (fun fault => Bool.false_ne_true (good.symm.trans fault)), State.handReading_of_target target]
      rfl
  · rw [exec_targetAgeExpiry t high]
    refine ⟨fun v a m fresh old => ?_, fun v a m fresh young => ?_, fun other => ?_⟩
    · rw [State.targetExpiry_of_aged (by rw [fresh]; exact decide_eq_true old), fresh]
      rfl
    · rw [State.targetExpiry_of_not_aged fun aged => ?_]
      rw [fresh] at aged
      exact absurd (of_decide_eq_true aged) (Nat.not_lt.mpr young)
    · refine congrArg (fun t => Host.Outcome.next (State.kick t)) (State.targetExpiry_of_not_aged fun aged => ?_)
      obtain ⟨v, a, m, fresh, _⟩ := Target.aged_iff.mp aged
      exact other v a m fresh

end Sys2Proof.Machine

/-! ## Laws of the applied writes (R28, R29, R44, R58, R146, R151, R158) -/

namespace Sys2Proof.Machine

open Sys2Proof

/-! ### The zones that an apply changes, one by one -/

/-- Operations on zones, each of which changes its own zone by a change that depends on the zone alone and is the
same when made twice, change the zones of a list and no other. -/
theorem foldl_zones {g : State → ZoneNo → State} {change : ZoneNo → ZoneRecord → ZoneRecord}
    {P : State → Prop}
    (kept : ∀ s z, P s → P (g s z))
    (one : ∀ s (z y : ZoneNo), P s → (g s z).zones[y] = if y = z then change y s.zones[y] else s.zones[y])
    (twice : ∀ z q, change z (change z q) = change z q) :
    ∀ (l : List ZoneNo) (s : State), P s → ∀ y : ZoneNo,
      (l.foldl g s).zones[y] = if y ∈ l then change y s.zones[y] else s.zones[y] := by
  intro l
  induction l with
  | nil => exact fun s _ y => by simp
  | cons z zs ih =>
    intro s holds y
    rw [List.foldl_cons, ih _ (kept s z holds) y, one s z y holds]
    by_cases head : y = z
    · simp [head, twice]
    · simp [head]

theorem State.updZone_zones (s : State) (z y : ZoneNo) (f : ZoneRecord → ZoneRecord) :
    (s.updZone z f).zones[y] = if y = z then f s.zones[y] else s.zones[y] := by
  split
  next same =>
    subst same
    exact State.updZone_self s y f
  next other => exact State.updZone_other s f other

/-- A list of zones cleared into a state (R58). -/
theorem clearAll_zones (st : ZoneState) (l : List ZoneNo) (s : State) (y : ZoneNo) :
    (l.foldl (fun s z => s.updZone z (fun q => q.cleared st)) s).zones[y] =
      if y ∈ l then s.zones[y].cleared st else s.zones[y] :=
  foldl_zones (P := fun _ => True) (change := fun _ q => q.cleared st) (fun _ _ _ => trivial)
    (fun s z y _ => s.updZone_zones z y _) (fun _ _ => rfl) l s trivial y

theorem State.applyPt_zones (s : State) (p : PressNo) (e : PtEntry) (z : ZoneNo) :
    (s.applyPt p e).zones[z] =
      if z ∈ s.tables.pt[p].zones ∧ z ∉ e.zones then s.zones[z].cleared .unassigned
      else if z ∈ e.zones ∧ z ∉ s.tables.pt[p].zones then s.zones[z].cleared .idle
      else s.zones[z] := by
  simp only [State.applyPt, clearAll_zones, List.mem_filter, List.contains_eq_mem, Bool.not_eq_true',
    decide_eq_false_iff_not]
  by_cases entering : z ∈ e.zones
  · simp [entering]
  · simp [entering]

/-- The change that reconversion makes to a zone's record (R44). -/
def State.reconversion (s : State) (z : ZoneNo) (q : ZoneRecord) : ZoneRecord :=
  match s.targets[zoneTarget z].raw? with
  | none => q
  | some r => { q with temp := (s.convertFor z r).1, range := (s.convertFor z r).2 }

theorem State.reconvert_zones (s : State) (z y : ZoneNo) :
    (s.reconvert z).zones[y] = if y = z then s.reconversion y s.zones[y] else s.zones[y] := by
  unfold State.reconversion
  cases raw : s.targets[zoneTarget z].raw? with
  | none =>
    rw [State.reconvert_of_no_raw raw]
    split
    next same =>
      subst same
      rw [raw]
    next => rfl
  | some r =>
    rw [State.reconvert_of_raw raw, State.updZone_zones]
    split
    next same =>
      subst same
      rw [raw]
    next => rfl

theorem State.reconversion_twice (s : State) (z : ZoneNo) (q : ZoneRecord) :
    s.reconversion z (s.reconversion z q) = s.reconversion z q := by
  unfold State.reconversion
  split
  · rfl
  · rfl

/-- Reconversion looks at the tables and the targets only. -/
theorem State.reconversion_congr {s t : State} (tables : t.tables = s.tables) (targets : t.targets = s.targets) :
    t.reconversion = s.reconversion := by
  funext z q
  simp only [State.reconversion, State.convertFor, tables, targets]

theorem reconvertAll_zones (l : List ZoneNo) (s : State) (y : ZoneNo) :
    (l.foldl State.reconvert s).zones[y] = if y ∈ l then (s.reconvert y).zones[y] else s.zones[y] := by
  have kept (t : State) (z : ZoneNo) (h : t.tables = s.tables ∧ t.targets = s.targets) :
      (t.reconvert z).tables = s.tables ∧ (t.reconvert z).targets = s.targets :=
    ⟨((t.reconvert_only z).tables rfl).trans h.1, ((t.reconvert_only z).targets rfl).trans h.2⟩
  rw [foldl_zones kept
    (fun t z y h => by rw [t.reconvert_zones, State.reconversion_congr h.1 h.2])
    s.reconversion_twice l s ⟨rfl, rfl⟩,
    s.reconvert_zones y y, if_pos rfl]

@[simp] theorem mem_allZones (z : ZoneNo) : z ∈ allZones := by
  revert z
  decide

theorem State.applyLin_zones (s : State) (i : Fin 2) (c : List Breakpoint) (z : ZoneNo) :
    (s.applyLin i c).zones[z] =
      if s.tables.zt[z].curve = i then
        (State.reconvert { s with tables := { s.tables with lin := s.tables.lin.set i c } } z).zones[z]
      else s.zones[z] := by
  rw [State.applyLin, reconvertAll_zones]
  simp

theorem State.applyZt_zones (s : State) (k z : ZoneNo) (e : ZtEntry) :
    (s.applyZt k e).zones[z] =
      if z = k ∧ (s.tables.zt[k].curve ≠ e.curve ∨ s.tables.zt[k].offset ≠ e.offset) then
        (State.reconvert { s with tables := { s.tables with zt := s.tables.zt.set k e } } z).zones[z]
      else s.zones[z] := by
  simp only [State.applyZt, Bool.or_eq_true, bne_iff_ne]
  by_cases moved : s.tables.zt[k].curve ≠ e.curve ∨ s.tables.zt[k].offset ≠ e.offset
  · by_cases own : z = k
    · subst own
      simp only [moved, if_true, and_self]
    · simp only [moved, if_true, own, false_and, if_false]
      rw [State.reconvert_zones, if_neg own]
  · simp only [moved, if_false, and_false]

/-! ### A channel table write (R29, R45, R76) -/

/-- A zone record whose temperature is absent (R45). -/
def ZoneRecord.forgotten (q : ZoneRecord) : ZoneRecord := { q with temp := none, range := .none }

theorem State.forgetTemp_zones (s : State) (t : TargetNo) (z : ZoneNo) :
    (s.forgetTemp t).zones[z] = if t = zoneTarget z then s.zones[z].forgotten else s.zones[z] := by
  have same : t = zoneTarget z ↔ t.val = z.val := Fin.ext_iff
  unfold State.forgetTemp
  split
  next zone =>
    rw [State.updZone_zones]
    simp only [same, Fin.ext_iff, eq_comm (a := z.val)]
    rfl
  next other =>
    rw [if_neg]
    exact fun h => other (by have := same.mp h; omega)

theorem State.resetTarget_zones (s : State) (t : Option TargetNo) (x : Target) (z : ZoneNo) :
    (s.resetTarget t x).zones[z] = if t = some (zoneTarget z) then s.zones[z].forgotten else s.zones[z] := by
  cases t with
  | none => rw [State.resetTarget, if_neg nofun]
  | some t =>
    rw [State.resetTarget, State.forgetTemp_zones, State.setTarget_zones]
    simp only [Option.some.injEq]

theorem State.resetTarget_targets (s : State) (t : Option TargetNo) (x : Target) (y : TargetNo) :
    (s.resetTarget t x).targets[y] = if t = some y then x else s.targets[y] := by
  cases t with
  | none => rw [State.resetTarget, if_neg nofun]
  | some t =>
    rw [State.resetTarget, (State.forgetTemp_only _ t).targets rfl]
    by_cases same : t = y
    · rw [if_pos (congrArg some same), same, State.setTarget_self]
    · rw [if_neg (fun h => same (Option.some.inj h)), State.setTarget_other s x (Ne.symm same)]

/-- The state with a channel table entry written. -/
def State.withCht (s : State) (i : Fin 64) (e : ChtEntry) : State :=
  { s with tables := { s.tables with cht := s.tables.cht.set i e } }

/-- The state in which a channel table write leaves all but the weigh station, which then follows its target. -/
def State.rebound (s : State) (i : Fin 64) (e : ChtEntry) : State :=
  (if s.tables.cht[i].target = e.target then s.withCht i e
    else (s.withCht i e).resetTarget s.tables.cht[i].target .unbound).resetTarget e.target .unrefreshed

theorem State.applyCht_eq (s : State) (i : Fin 64) (e : ChtEntry) : s.applyCht i e = (s.rebound i e).weighGate := by
  simp only [State.applyCht, State.rebound, State.withCht, beq_iff_eq]

theorem State.rebound_targets (s : State) (i : Fin 64) (e : ChtEntry) (x : TargetNo) :
    (s.rebound i e).targets[x] = if e.target = some x then .unrefreshed
      else if s.tables.cht[i].target = some x then .unbound else s.targets[x] := by
  rw [State.rebound, State.resetTarget_targets]
  by_cases same : s.tables.cht[i].target = e.target
  · rw [if_pos same, same]
    split
    · rfl
    · rfl
  · rw [if_neg same, State.resetTarget_targets]
    rfl

theorem State.rebound_zones (s : State) (i : Fin 64) (e : ChtEntry) (z : ZoneNo) :
    (s.rebound i e).zones[z] =
      if e.target = some (zoneTarget z) ∨ s.tables.cht[i].target = some (zoneTarget z)
      then s.zones[z].forgotten else s.zones[z] := by
  have written : (s.withCht i e).zones[z] = s.zones[z] := rfl
  rw [State.rebound, State.resetTarget_zones]
  by_cases same : s.tables.cht[i].target = e.target
  · simp only [same, if_true, or_self, written]
  · rw [if_neg same, State.resetTarget_zones, written]
    by_cases before : s.tables.cht[i].target = some (zoneTarget z)
    · have after : e.target ≠ some (zoneTarget z) := fun h => same (before.trans h.symm)
      rw [if_neg after, if_pos before, if_pos (.inr before)]
    · simp only [before, if_false, or_false]

theorem State.rebound_only (s : State) (i : Fin 64) (e : ChtEntry) :
    Only { tables := true, targets := true, zones := true } s (s.rebound i e) := by
  have table : Only { tables := true, targets := true, zones := true } s (s.withCht i e) := by
    constructor <;> simp [State.withCht]
  refine Only.after ?_ (State.resetTarget_only _ _ _) rfl
  exact Only.ite table (table.after (State.resetTarget_only _ _ _) rfl)

/-- What differs in the weigh station and the notices alone is equal once these are put back. -/
theorem Only.restore_weigh {s t : State} (h : Only { weigh := true, notices := true } s t) :
    { t with weigh := s.weigh, notices := s.notices } = s := by
  obtain ⟨now, rstn, own, gdLevels, mode, line, sync, loss, census, tables, targets, zones, periodCount, periodDue,
    guard, -, charges, presses, store, drain0, pace, agent, -, freeCount, pending⟩ := h
  simp only [forall_const] at *
  cases s
  cases t
  subst_vars
  rfl

/-- After a channel table write the weigh station stands where R76 puts it from its state before. -/
theorem State.applyCht_weighGate (s : State) (i : Fin 64) (e : ChtEntry) :
    s.applyCht i e = ({ s.applyCht i e with weigh := s.weigh, notices := s.notices } : State).weighGate := by
  rw [← (s.rebound_only i e).weigh rfl, ← (s.rebound_only i e).notices rfl, State.applyCht_eq,
    Only.restore_weigh (State.weighGate_only _)]

/-! ### A SYS write that clears the recorder (R146) -/

/-- Waiving a slot: a released record leaves, any other keeps no obligation but a delivered one. -/
theorem deliver_waive_stored (r : Record) (d : Delivery) :
    Slot.deliver Delivery.waive (.stored r d) =
      if d.released = true then .free else .stored r { d with owed1 := d.owed1 && d.delivered1 } := by
  obtain ⟨delivered0, owed1, delivered1, released⟩ := d
  cases owed1 <;> cases delivered1 <;> cases released <;> rfl

theorem deliver_waive_other {x : Slot} (h : ∀ r d, x ≠ .stored r d) : Slot.deliver Delivery.waive x = x := by
  cases x with
  | free => rfl
  | reserved a => rfl
  | stored r d => exact absurd rfl (h r d)

theorem State.waive_slots (s : State) (k : SlotNo) :
    s.waive.store.slots[k] = Slot.deliver Delivery.waive s.store.slots[k] :=
  getElem_mapVector _ _ _ _

theorem State.clearsRecorder_iff (s : State) (y : Sys) :
    s.clearsRecorder y = true ↔ s.tables.sys.recorder ≠ 0 ∧ y.recorder = 0 := by
  simp [State.clearsRecorder]

/-! ### The writes of a control period (R158) -/

/-- Writes taken from the head of the queue and applied, in order (R158). -/
def State.applyRun (s : State) (l : List Write) : State :=
  l.foldl (fun s w => (s.applyWrite w).postedDone) s

theorem applyWhile_of_head {f : Write → Bool} {l : List Write} (s : State)
    (stop : ∀ w, l.head? = some w → f w = false) :
    applyWhile f l s = s := by
  cases l with
  | nil => rfl
  | cons w ws => rw [applyWhile, stop w rfl, if_neg Bool.false_ne_true]

/-- The writes at the head that satisfy a condition are applied, up to the first that does not. -/
theorem applyWhile_append {f : Write → Bool} {l rest : List Write} (all : ∀ w ∈ l, f w = true)
    (stop : ∀ w, rest.head? = some w → f w = false) (s : State) : applyWhile f (l ++ rest) s = s.applyRun l := by
  induction l generalizing s with
  | nil => exact applyWhile_of_head s stop
  | cons w ws ih =>
    rw [List.cons_append, applyWhile, if_pos (all w (by simp)), ih fun v h => all v (by simp [h])]
    rfl

theorem State.applyRun_append (s : State) (l m : List Write) : s.applyRun (l ++ m) = (s.applyRun l).applyRun m :=
  List.foldl_append

theorem State.applyRun_posted (s : State) (l : List Write) :
    (s.applyRun l).agent.posted = s.agent.posted.drop l.length := by
  induction l generalizing s with
  | nil => rfl
  | cons w ws ih =>
    rw [State.applyRun, List.foldl_cons]
    rw [← State.applyRun, ih, State.postedDone_posted, State.applyWrite_posted, List.drop_tail, List.length_cons]

theorem State.applyRun_tables (s : State) (l : List Write) :
    (s.applyRun l).tables = l.foldl Tables.after s.tables := by
  induction l generalizing s with
  | nil => rfl
  | cons w ws ih =>
    rw [State.applyRun, List.foldl_cons]
    rw [← State.applyRun, ih, State.postedDone_tables, State.applyWrite_tables, List.foldl_cons]

/-- A write to a posted table changes the tables, the targets, the zones and the weigh station (R29, R44, R47). -/
theorem State.applyWrite_only_of_posts {s : State} {w : Write} (posts : w.table ≤ 3) :
    Only { tables := true, targets := true, zones := true, weigh := true, notices := true } s (s.applyWrite w) := by
  cases w with
  | cht i e => exact s.applyCht_only i e
  | lin i c => exact (s.applyLin_only i c).widen rfl
  | crt i r => exact (s.applyCrt_only i r).widen rfl
  | zt z e => exact (s.applyZt_only z e).widen rfl
  | rt i e | pt i e | gt i e | sys e | acc i e => simp [Write.table] at posts

theorem State.applyRun_only {s : State} {l : List Write} (posts : ∀ w ∈ l, w.table ≤ 3) :
    Only { tables := true, targets := true, zones := true, weigh := true, notices := true, agent := true }
      s (s.applyRun l) := by
  induction l generalizing s with
  | nil => exact Only.refl _ s
  | cons w ws ih =>
    exact (((State.applyWrite_only_of_posts (posts w (by simp))).widen rfl).after (State.postedDone_only _) rfl).trans
      (ih fun v h => posts v (by simp [h]))

/-- Each applied write is one fewer that an open read waits for; the rest of the agent stays. -/
theorem State.applyRun_agent {s : State} {l : List Write} (posts : ∀ w ∈ l, w.table ≤ 3) :
    (∀ i : Fin 4, (s.applyRun l).agent.contexts[i] =
      (s.agent.contexts[i]).map (fun c => { c with wait := c.wait - l.length })) ∧
    { (s.applyRun l).agent with posted := s.agent.posted, contexts := s.agent.contexts } = s.agent := by
  induction l generalizing s with
  | nil => exact ⟨fun i => by simp [State.applyRun], rfl⟩
  | cons w ws ih =>
    have same := s.applyWrite_agent w (by have := posts w (by simp); omega)
    obtain ⟨contexts, others⟩ := ih (s := (s.applyWrite w).postedDone) fun v h => posts v (by simp [h])
    have run : s.applyRun (w :: ws) = ((s.applyWrite w).postedDone).applyRun ws := rfl
    rw [run]
    constructor
    · intro i
      rw [contexts i]
      show Option.map _ (mapVector _ (s.applyWrite w).agent.contexts)[i.val] = _
      rw [getElem_mapVector, same, Option.map_map, List.length_cons]
      congr 1
      funext c
      simp only [Function.comp_apply, Context.mk.injEq, true_and]
      omega
    · have back := congrArg (fun a : Agent => { a with posted := s.agent.posted, contexts := s.agent.contexts }) others
      refine back.trans ?_
      show { (s.applyWrite w).agent with posted := s.agent.posted, contexts := s.agent.contexts } = s.agent
      rw [same]

/-- The writes of a control period: those of the heat tables at the head of the queue, then the channel table writes
directly behind them (R28, R40, R158). -/
theorem State.applyPeriodEnd_eq {s : State} {heat cht rest : List Write} (queue : s.agent.posted = heat ++ cht ++ rest)
    (isHeat : ∀ w ∈ heat, w.isHeat = true) (isCht : ∀ w ∈ cht, w.isCht = true)
    (stop : ∀ w, rest.head? = some w → w.isCht = false)
    (apart : cht = [] → ∀ w, rest.head? = some w → w.isHeat = false) :
    s.applyPeriodEnd = s.applyRun (heat ++ cht) := by
  have stopHeat : ∀ w, (cht ++ rest).head? = some w → w.isHeat = false := by
    cases cht with
    | nil => exact apart rfl
    | cons v vs =>
      intro w head
      have table := isCht v (by simp)
      cases head
      simp only [Write.isCht, beq_iff_eq] at table
      simp [Write.isHeat, table]
  have heated : applyWhile Write.isHeat s.agent.posted s = s.applyRun heat := by
    rw [queue, List.append_assoc]
    exact applyWhile_append isHeat stopHeat s
  have left : (s.applyRun heat).agent.posted = cht ++ rest := by
    rw [State.applyRun_posted, queue, List.append_assoc, List.drop_left]
  rw [State.applyPeriodEnd, heated, State.applyChtHead, left, applyWhile_append isCht stop, State.applyRun_append]

/-! ### The obligation -/

/-- What an applied SYS write does (R146). -/
theorem applySys_effects (s : State) (y : Sys) :
    let t := s.applySys y
    (s.tables.sys.recorder = 0 ∨ y.recorder ≠ 0 → t = { s with tables := { s.tables with sys := y } }) ∧
    (s.tables.sys.recorder ≠ 0 → y.recorder = 0 →
      Only { tables := true, store := true, pace := true } s t ∧ t.tables = { s.tables with sys := y } ∧
      t.pace = none ∧
      { t.store with slots := s.store.slots } = s.store ∧
      ∀ k : SlotNo,
        (∀ r d, s.store.slots[k] = .stored r d → t.store.slots[k] =
          if d.released = true then .free
          else .stored r { d with owed1 := d.owed1 && d.delivered1 }) ∧
        ((∀ r d, s.store.slots[k] ≠ .stored r d) → t.store.slots[k] = s.store.slots[k])) := by
  intro t
  refine ⟨fun keeps => ?_, fun had cleared => ?_⟩
  · refine if_neg fun clears => ?_
    obtain ⟨had, cleared⟩ := (s.clearsRecorder_iff y).mp clears
    exact keeps.elim had fun kept => kept cleared
  · have waived : t = ({ s with tables := { s.tables with sys := y } } : State).waive :=
      if_pos ((s.clearsRecorder_iff y).mpr ⟨had, cleared⟩)
    refine ⟨s.applySys_only y, by rw [waived]; rfl, by rw [waived]; rfl, by rw [waived]; rfl, fun k => ?_⟩
    have slot : t.store.slots[k] = Slot.deliver Delivery.waive s.store.slots[k] := by
      rw [waived]
      exact State.waive_slots _ k
    exact ⟨fun r d stored => by rw [slot, stored, deliver_waive_stored],
      fun other => by rw [slot, deliver_waive_other other]⟩

theorem applyAcc_agent (s : State) (i : Fin 4) (e : Option AccEntry) :
    (s.applyAcc i e).agent =
      if (s.agent.acc[i]).map (·.addr) = e.map (·.addr) then { s.agent with acc := s.agent.acc.set i e }
      else { s.agent with acc := s.agent.acc.set i e, contexts := s.agent.contexts.set i none,
                          marks := s.agent.marks.set i none } := by
  simp only [State.applyAcc, beq_iff_eq]
  split
  · rfl
  · rfl

/-- Settles O49: the effects of each kind of write, and the writes of a control period as one run from the head of
the queue. -/
theorem postedWritesApply : Obligations.PostedWritesApply := by
  refine ⟨fun s w => ?_, fun s heat cht rest queue isHeat isCht stop apart => ?_⟩
  · intro u t
    have tables : t.tables = u.tables := s.applyWrite_tables w
    refine ⟨?_, ?_, ?_, ?_, ?_, ?_, ?_, ?_, ?_⟩
    · rintro p e rfl
      exact ⟨s.applyPt_only p e, tables, s.applyPt_zones p e⟩
    · rintro y rfl
      exact applySys_effects s y
    · rintro i e rfl
      exact ⟨s.applyAcc_only i e, applyAcc_agent s i e⟩
    · intro alone
      cases w with
      | crt i r | rt i r | gt i e => rfl
      | cht i e | lin i e | zt i e | pt i e | sys e | acc i e => simp [Write.table] at alone
    · intro heat
      refine ⟨?_, tables⟩
      cases w with
      | lin i c => exact s.applyLin_only i c
      | zt z e => exact s.applyZt_only z e
      | cht i e | crt i e | rt i e | pt i e | gt i e | sys e | acc i e => simp [Write.table] at heat
    · intro cht
      cases w with
      | cht i e => exact ⟨s.applyCht_only i e, tables, s.applyCht_weighGate i e⟩
      | lin i e | crt i e | zt i e | rt i e | pt i e | gt i e | sys e | acc i e => simp [Write.table] at cht
    · rintro i c rfl
      exact ⟨(s.applyLin_only i c).targets rfl, s.applyLin_zones i c⟩
    · rintro k e rfl
      exact ⟨(s.applyZt_only k e).targets rfl, fun z => s.applyZt_zones k z e⟩
    · rintro i e rfl
      have gated : t = (s.rebound i e).weighGate := s.applyCht_eq i e
      have targets : t.targets = (s.rebound i e).targets := by rw [gated, (State.weighGate_only _).targets rfl]
      have zones : t.zones = (s.rebound i e).zones := by rw [gated, (State.weighGate_only _).zones rfl]
      refine ⟨fun x => by rw [targets, State.rebound_targets], fun z => ?_⟩
      rw [zones, State.rebound_zones]
      rfl
  · have posts : ∀ w ∈ heat ++ cht, w.table ≤ 3 := by
      intro w mem
      rcases List.mem_append.mp mem with h | h
      · have heat := isHeat w h
        simp only [Write.isHeat, Bool.and_eq_true, decide_eq_true_eq] at heat
        exact heat.2
      · have cht := isCht w h
        simp only [Write.isCht, beq_iff_eq] at cht
        omega
    intro t
    have run : t = s.applyRun (heat ++ cht) := State.applyPeriodEnd_eq queue isHeat isCht stop apart
    obtain ⟨contexts, others⟩ := State.applyRun_agent (s := s) posts
    rw [List.length_append] at contexts
    rw [run]
    refine ⟨State.applyRun_only posts, s.applyRun_tables _, ?_, contexts, others⟩
    rw [State.applyRun_posted, queue, List.drop_left]

end Sys2Proof.Machine

/-! ## Laws of the fields of a content (R174, R176, R177) -/

namespace Sys2Proof.Machine

open Sys2Proof

/-- The byte at an offset as a number. -/
def byteAt (bs : List Byte) (k : Nat) : Nat := (bs.getD k 0).toNat

/-- The two bytes at an offset, most significant first. -/
def wordAt (bs : List Byte) (k : Nat) : Nat := 256 * byteAt bs k + byteAt bs (k + 1)

/-- The two bytes at an offset in two's complement. -/
def intAt (bs : List Byte) (k : Nat) : Int := if wordAt bs k < 32768 then wordAt bs k else (wordAt bs k : Int) - 65536

/-- The address at an offset: bits 5 to 0 of its byte. -/
def addrAt (bs : List Byte) (k : Nat) : Addr := (bs.getD k 0).setWidth 6

theorem byteAt_lt (bs : List Byte) (k : Nat) : byteAt bs k < 256 := (bs.getD k 0).isLt

theorem wordAt_lt (bs : List Byte) (k : Nat) : wordAt bs k < 65536 := by
  have high := byteAt_lt bs k
  have low := byteAt_lt bs (k + 1)
  unfold wordAt
  omega

theorem drop_take_succ (bs : List Byte) (k n : Nat) (h : k < bs.length) :
    (bs.drop k).take (n + 1) = bs.getD k 0 :: (bs.drop (k + 1)).take n := by
  rw [List.drop_eq_getElem_cons h, List.take_succ_cons, List.getD_eq_getElem _ _ h]

theorem drop_take_one (bs : List Byte) {k : Nat} (h : k < bs.length) : (bs.drop k).take 1 = [bs.getD k 0] :=
  drop_take_succ bs k 0 h

@[simp] theorem field_one (bs : List Byte) (k : Nat) : field bs k 1 = byteAt bs k := by
  by_cases h : k < bs.length
  · simp [field, byteAt, drop_take_one bs h, ofBytes]
  · have past : bs.length ≤ k := Nat.le_of_not_lt h
    simp [field, byteAt, List.drop_of_length_le past, List.getElem?_eq_none past, ofBytes]

theorem field_two {bs : List Byte} {k : Nat} (h : k + 2 ≤ bs.length) : field bs k 2 = wordAt bs k := by
  rw [field, drop_take_succ bs k 1 (by omega), drop_take_one bs (by omega)]
  simp [ofBytes, wordAt, byteAt]
  omega

theorem field_three {bs : List Byte} {k : Nat} (h : k + 3 ≤ bs.length) :
    field bs k 3 = 65536 * byteAt bs k + wordAt bs (k + 1) := by
  rw [field, drop_take_succ bs k 2 (by omega), drop_take_succ bs (k + 1) 1 (by omega), drop_take_one bs (by omega)]
  simp [ofBytes, wordAt, byteAt]
  omega

theorem fieldInt_eq {bs : List Byte} {k : Nat} (h : k + 2 ≤ bs.length) : fieldInt bs k = intAt bs k := by
  have small := wordAt_lt bs k
  rw [fieldInt, field_two h, intAt, BitVec.toInt_eq_toNat_cond, BitVec.toNat_ofNat, Nat.mod_eq_of_lt small]
  split
  · rw [if_pos (by omega)]
  · rw [if_neg (by omega)]
    rfl

@[simp] theorem fieldAddr_eq (bs : List Byte) (k : Nat) : fieldAddr bs k = addrAt bs k := by
  rw [fieldAddr, field_one]
  rfl

@[simp] theorem byteOf_byteAt (bs : List Byte) (k : Nat) : byteOf (byteAt bs k) = bs.getD k 0 := by
  rw [byteOf, byteAt, BitVec.ofNat_toNat, BitVec.setWidth_eq]

@[simp] theorem fieldFlag_eq (bs : List Byte) (k : Nat) : fieldFlag bs k = (bs.getD k 0).getLsbD 0 := by
  rw [fieldFlag, field_one, byteAt, BitVec.getLsbD, Nat.testBit_zero, beq_eq_decide]

theorem parseWords_eq (bs : List Byte) (off n : Nat) (h : off + 2 * n ≤ bs.length) :
    parseWords bs off n = (List.range n).map (fun k => wordAt bs (off + 2 * k)) := by
  induction n generalizing off with
  | zero => rfl
  | succ n ih =>
    rw [parseWords, field_two (by omega), ih (off + 2) (by omega), List.range_succ_eq_map, List.map_cons, List.map_map]
    congr 1
    refine List.map_congr_left fun k _ => ?_
    simp only [Function.comp_apply]
    congr 1
    omega

theorem parseCurve_eq {bs : List Byte} (len : bs.length = 52) :
    parseCurve bs = (List.range 13).map (fun k => { raw := wordAt bs (4 * k), temp := intAt bs (4 * k + 2) }) := by
  have all : parseCurve bs =
      (List.range 13).map (fun k => { raw := field bs (4 * k) 2, temp := fieldInt bs (4 * k + 2) }) := rfl
  rw [all]
  refine List.map_congr_left fun k mem => ?_
  have k13 := List.mem_range.mp mem
  rw [field_two (by omega), fieldInt_eq (by omega)]

end Sys2Proof.Machine

/-! ## The checks of a write in their order (R26, R40, R47, R56, R95, R97, R98, R151, R160) -/

namespace Sys2Proof.Machine

open Sys2Proof

/-! ### Checks one after the other -/

/-- The outcome of a write is the result of the first check that fails, or an acceptance where none fails. -/
def Judged (c : Checked) : List (MgmtResult × Prop) → Prop
  | [] => ∃ w, c = .accept w
  | (result, fails) :: rest => (fails → c = .refuse result) ∧ (¬fails → Judged c rest)

/-- None of the checks fails. -/
def NoneFails : List (MgmtResult × Prop) → Prop
  | [] => True
  | (_, fails) :: rest => ¬fails ∧ NoneFails rest

/-- No check failed on an accepted write. -/
theorem Judged.noneFails {w : Write} {checks : List (MgmtResult × Prop)} (h : Judged (.accept w) checks) :
    NoneFails checks := by
  induction checks with
  | nil => trivial
  | cons x rest ih =>
    obtain ⟨first, others⟩ := h
    have passes : ¬x.2 := fun fails => by cases first fails
    exact ⟨passes, ih (others passes)⟩

theorem Judged.accept (w : Write) : Judged (.accept w) [] := ⟨w, rfl⟩

/-- A check of the model in front of the rest. -/
theorem Judged.ite {b fails : Prop} [Decidable b] {result : MgmtResult} {x : Checked}
    {rest : List (MgmtResult × Prop)} (same : b ↔ fails) (others : ¬fails → Judged x rest) :
    Judged (if b then .refuse result else x) ((result, fails) :: rest) := by
  refine ⟨fun h => if_pos (same.mpr h), fun h => ?_⟩
  rw [if_neg fun hb => h (same.mp hb)]
  exact others h

/-- A check of the model whose success gives a bound that the rest uses. -/
theorem Judged.dite {b fails : Prop} [Decidable b] {result : MgmtResult} {x : b → Checked}
    {rest : List (MgmtResult × Prop)} (same : ¬b ↔ fails) (others : ∀ h : b, Judged (x h) rest) :
    Judged (if h : b then x h else .refuse result) ((result, fails) :: rest) := by
  refine ⟨fun h => dif_neg (same.mpr h), fun h => ?_⟩
  have passes : b := not_not.mp fun hb => h (same.mp hb)
  rw [dif_pos passes]
  exact others passes

/-! ### CHT (R26, R27) -/

/-- The tables once the posted writes are applied. -/
def State.ahead (s : State) : Tables := s.agent.posted.foldl Tables.after s.tables

theorem State.ahead_cht (s : State) : s.ahead.cht = s.projectedCht :=
  (s.projectedCht_eq.trans (List.foldl_hom Tables.cht fun t w => (Tables.after_cht t w).symm)).symm

/-- A zone table after a posted write, if it is one to it. -/
def ztAfter (t : Vector ZtEntry 16) : Write → Vector ZtEntry 16
  | .zt i e => t.set i e
  | _ => t

theorem Tables.after_zt (t : Tables) (w : Write) : (t.after w).zt = ztAfter t.zt w := by
  cases w with
  | cht i e | lin i e | crt i e | zt i e | rt i e | pt i e | gt i e | sys e | acc i e => rfl

theorem State.projectedZt_eq (s : State) : s.projectedZt = s.agent.posted.foldl ztAfter s.tables.zt := rfl

theorem State.ahead_zt (s : State) : s.ahead.zt = s.projectedZt :=
  (s.projectedZt_eq.trans (List.foldl_hom Tables.zt fun t w => (Tables.after_zt t w).symm)).symm

theorem Role.ofCode_eq_none {n : Nat} : Role.ofCode n = Option.none ↔ 5 < n := by
  match n with
  | 0 | 1 | 2 | 3 | 4 | 5 => decide
  | n + 6 => exact ⟨fun _ => by omega, fun _ => rfl⟩

theorem Role.code_of_ofCode {n : Nat} {r : Role} (h : Role.ofCode n = some r) : r.code = n := by
  match n with
  | 0 | 1 | 2 | 3 | 4 | 5 =>
    cases h
    rfl
  | n + 6 => cases h

theorem Role.code_eq_zero {r : Role} : r.code = 0 ↔ r = .none := by cases r <;> simp [Role.code]

theorem roleIndexBad_iff (r : Role) (k : Nat) :
    roleIndexBad r k = true ↔ (r.code = 1 ∧ 15 < k) ∨ (3 ≤ r.code ∧ 3 < k) := by
  cases r <;> simp [roleIndexBad, Role.code]

/-- The first role target of a role and the number of its role indices (Table 24). -/
def Role.targets : Role → Nat × Nat
  | .none => (0, 0)
  | .zoneTc => (0, 16)
  | .weigh => (16, 1)
  | .platen => (17, 4)
  | .ejectPos => (21, 4)
  | .ejectForce => (25, 4)

theorem targetOf_eq_some {r : Role} {i : Nat} {t : TargetNo} :
    targetOf r i = some t ↔
      roleIndexStored r i < r.targets.2 ∧ t.val = r.targets.1 + roleIndexStored r i := by
  cases r with
  | none => simp [targetOf, roleIndexStored, Role.targets]
  | weigh =>
    simp only [targetOf, roleIndexStored, Role.targets, Option.some.injEq, Fin.ext_iff]
    omega
  | zoneTc | platen | ejectPos | ejectForce =>
    simp [targetOf, roleIndexStored, Role.targets, Fin.ext_iff, eq_comm]

theorem roleIndexStored_lt {r : Role} {k : Nat} (good : roleIndexBad r k = false) (active : r ≠ .none) :
    roleIndexStored r k < r.targets.2 := by
  cases r with
  | none => exact absurd rfl active
  | weigh => exact Nat.one_pos
  | zoneTc | platen | ejectPos | ejectForce => exact Nat.lt_succ_of_le (Nat.le_of_not_lt (of_decide_eq_false good))

theorem roleIndexStored_twice (r : Role) (k : Nat) :
    roleIndexStored r (roleIndexStored r k) = roleIndexStored r k := by
  cases r <;> rfl

/-- A role target has one role and, but for the weigh station's, one role index (Table 24). -/
theorem targetOf_eq_stored {r q : Role} {i k : Nat} (good : roleIndexBad q k = false) (active : q ≠ .none) :
    targetOf r i = targetOf q (roleIndexStored q k) ↔ r.code = q.code ∧ (q.code = 2 ∨ i = k) := by
  have inside := roleIndexStored_lt good active
  have room : q.targets.1 + roleIndexStored q k < 29 := by
    cases q <;> simp only [Role.targets] at inside ⊢ <;> omega
  have written : targetOf q (roleIndexStored q k) = some ⟨q.targets.1 + roleIndexStored q k, room⟩ := by
    rw [targetOf_eq_some, roleIndexStored_twice]
    exact ⟨inside, rfl⟩
  rw [written, targetOf_eq_some]
  show _ ∧ q.targets.1 + roleIndexStored q k = _ ↔ _
  clear written room
  cases q <;> cases r <;> simp only [Role.targets, roleIndexStored, Role.code, true_and, true_or, and_true,
    Nat.zero_lt_one] at inside ⊢ <;> omega

theorem chtCollides_iff {t : Vector ChtEntry 64} {i : Fin 64} {bs : List Byte} {role : Role}
    (good : roleIndexBad role (byteAt bs 3) = false) :
    chtCollides t i (chtEntryOf bs role) = true ↔
      role.code ≠ 0 ∧ ∃ j : Fin 64, j ≠ i ∧ t[j].role ≠ .none ∧
        ((t[j].node = addrAt bs 0 ∧ t[j].channel = byteAt bs 1) ∨
          (t[j].role.code = role.code ∧ (role.code = 2 ∨ t[j].index = byteAt bs 3))) := by
  by_cases none : role = .none
  · simp [chtCollides, ChtEntry.active, chtEntryOf, none, Role.code]
  · have target (j : Fin 64) : t[j].target = (chtEntryOf bs role).target ↔
        t[j].role.code = role.code ∧ (role.code = 2 ∨ t[j].index = byteAt bs 3) := by
      rw [← targetOf_eq_stored good none, ← field_one]
      rfl
    have live : (chtEntryOf bs role).active = true := by simp [ChtEntry.active, chtEntryOf, none]
    have code : role.code ≠ 0 := fun h => none (Role.code_eq_zero.mp h)
    simp only [chtCollides, live, Bool.true_and, List.any_eq_true, Bool.and_eq_true, Bool.or_eq_true, bne_iff_ne,
      beq_iff_eq, target, ne_eq, code, not_false_eq_true, true_and, allCht, List.mem_finRange]
    simp only [ChtEntry.active, bne_iff_ne, chtEntryOf, fieldAddr_eq, field_one, ne_eq, and_assoc]

/-- The checks of a CHT write (R26, R27). -/
def chtChecks (s : State) (entry : Nat) (bs : List Byte) : List (MgmtResult × Prop) := [
  (.badArg, 63 < entry), (.badArg, 5 < byteAt bs 2),
  (.badArg, (byteAt bs 2 = 1 ∧ 15 < byteAt bs 3) ∨ (3 ≤ byteAt bs 2 ∧ 3 < byteAt bs 3)),
  (.badArg, 15 < byteAt bs 1), (.badArg, byteAt bs 4 = 0),
  (.badArg, byteAt bs 2 ≠ 0 ∧ ∃ j : Fin 64, j.val ≠ entry ∧ s.ahead.cht[j].role ≠ .none ∧
    ((s.ahead.cht[j].node = addrAt bs 0 ∧ s.ahead.cht[j].channel = byteAt bs 1) ∨
      (s.ahead.cht[j].role.code = byteAt bs 2 ∧ (byteAt bs 2 = 2 ∨ s.ahead.cht[j].index = byteAt bs 3))))]

theorem State.checkCht_judged (s : State) (entry : Nat) (bs : List Byte) :
    Judged (s.checkCht entry bs) (chtChecks s entry bs) := by
  refine Judged.dite (by omega) fun h => ?_
  rw [field_one]
  cases code : Role.ofCode (byteAt bs 2) with
  | none =>
    have past := Role.ofCode_eq_none.mp code
    exact ⟨fun _ => rfl, fun small => absurd past small⟩
  | some role =>
    have number := Role.code_of_ofCode code
    have bad := roleIndexBad_iff role (byteAt bs 3)
    rw [number] at bad
    refine ⟨fun past => ?_, fun _ => ?_⟩
    · rw [Role.ofCode_eq_none.mpr past] at code
      contradiction
    · simp only [field_one, beq_iff_eq]
      refine Judged.ite bad fun good => ?_
      have good : roleIndexBad role (byteAt bs 3) = false := Bool.eq_false_iff.mpr fun h => good (bad.mp h)
      have collides := chtCollides_iff (t := s.projectedCht) (i := ⟨entry, h⟩) good
      rw [number, ← s.ahead_cht] at collides
      simp only [ne_eq, Fin.ext_iff] at collides
      refine Judged.ite .rfl fun _ => Judged.ite .rfl fun _ => ?_
      rw [← s.ahead_cht]
      exact Judged.ite (by simpa [chtEntryOf] using collides) fun _ => .accept _

end Sys2Proof.Machine

namespace Sys2Proof.Machine

open Sys2Proof

/-- An entry of a vector named by its number. -/
theorem exists_val_eq_and {n k : Nat} (h : k < n) {P : Fin n → Prop} :
    (∃ z : Fin n, z.val = k ∧ P z) ↔ P ⟨k, h⟩ := by
  constructor
  · rintro ⟨z, rfl, holds⟩
    exact holds
  · exact fun holds => ⟨⟨k, h⟩, rfl, holds⟩

/-! ### LIN and CRT (R40, R47) -/

theorem curveValid_iff (c : List Breakpoint) : curveValid c = true ↔ c.IsChain (fun a b => a.raw < b.raw) := by
  induction c with
  | nil => simp [curveValid]
  | cons a rest ih =>
    cases rest with
    | nil => simp [curveValid]
    | cons b rest => simp [curveValid, ih]

/-- The checks of a LIN write (R40). -/
def linChecks (entry : Nat) (bs : List Byte) : List (MgmtResult × Prop) := [
  (.badArg, 1 < entry), (.badArg, ∃ k < 13, intAt bs (4 * k + 2) < -400 ∨ 4000 < intAt bs (4 * k + 2)),
  (.badArg, ∃ k < 12, wordAt bs (4 * k + 4) ≤ wordAt bs (4 * k))]

theorem checkLin_judged (entry : Nat) {bs : List Byte} (len : bs.length = 52) :
    Judged (checkLin entry bs) (linChecks entry bs) := by
  have temps : (parseCurve bs).any Breakpoint.tempBad = true ↔
      ∃ k < 13, intAt bs (4 * k + 2) < -400 ∨ 4000 < intAt bs (4 * k + 2) := by
    simp [parseCurve_eq len, Breakpoint.tempBad]
  have ascending : curveValid (parseCurve bs) = true ↔ ∀ k < 12, wordAt bs (4 * k) < wordAt bs (4 * k + 4) := by
    rw [curveValid_iff, parseCurve_eq len, List.isChain_map, List.isChain_range_succ]
    rfl
  refine Judged.dite (by omega) fun h => Judged.ite temps fun _ => ?_
  constructor
  · rintro ⟨k, small, flat⟩
    exact if_neg fun valid => absurd (ascending.mp valid k small) (Nat.not_lt.mpr flat)
  · intro rising
    rw [if_pos (ascending.mpr fun k small => Nat.lt_of_not_le fun flat => rising ⟨k, small, flat⟩)]
    exact .accept _

/-- The checks of a CRT write (R47). -/
def crtChecks (entry : Nat) (bs : List Byte) : List (MgmtResult × Prop) := [
  (.badArg, 3 < entry), (.badArg, ∃ k < 24, 4095 < wordAt bs (2 * k))]

theorem parseWords_crt {bs : List Byte} (len : bs.length = 48) :
    parseWords bs 0 24 = (List.range 24).map (fun k => wordAt bs (2 * k)) := by
  rw [parseWords_eq bs 0 24 (by omega)]
  simp only [Nat.zero_add]

theorem checkCrt_judged (entry : Nat) {bs : List Byte} (len : bs.length = 48) :
    Judged (checkCrt entry bs) (crtChecks entry bs) :=
  Judged.dite (by omega) fun _ => Judged.ite (by simp [parseWords_crt len]) fun _ => .accept _

/-! ### ZT (R56) -/

theorem allZones_eq : allZones = List.finRange 16 := by decide

/-- The checks of a ZT write (R56). -/
def ztChecks (s : State) (entry : Nat) (bs : List Byte) : List (MgmtResult × Prop) := [
  (.badArg, 15 < entry), (.badArg, 1 < byteAt bs 0), (.badArg, 47 < (addrAt bs 3).toNat),
  (.badArg, 15 < byteAt bs 4), (.badArg, 15 < byteAt bs 7),
  (.badState, s.mode = .run ∧ ∃ z : ZoneNo, z.val = entry ∧
    (s.ahead.zt[z].heater ≠ addrAt bs 3 ∨ s.ahead.zt[z].channel ≠ byteAt bs 4)),
  (.badArg, addrAt bs 3 ≠ 0 ∧ ∃ z : ZoneNo, z.val ≠ entry ∧ s.ahead.zt[z].heater = addrAt bs 3 ∧
    s.ahead.zt[z].channel = byteAt bs 4),
  (.badArg, addrAt bs 3 ≠ 0 ∧
    8 ≤ ((List.finRange 16).filter
      (fun z : ZoneNo => z.val != entry && s.ahead.zt[z].heater == addrAt bs 3)).length)]

theorem ztOutputShared_iff {t : Vector ZtEntry 16} {z : ZoneNo} {e : ZtEntry} :
    ztOutputShared t z e = true ↔
      e.heater ≠ 0 ∧ ∃ j : ZoneNo, j.val ≠ z.val ∧ t[j].heater = e.heater ∧ t[j].channel = e.channel := by
  simp [ztOutputShared, Fin.ext_iff, and_assoc]

theorem ztNodeFull_iff {t : Vector ZtEntry 16} {z : ZoneNo} {e : ZtEntry} :
    ztNodeFull t z e = true ↔
      e.heater ≠ 0 ∧
        8 ≤ ((List.finRange 16).filter (fun j : ZoneNo => j.val != z.val && t[j].heater == e.heater)).length := by
  have same (j : ZoneNo) : (j != z) = (j.val != z.val) := by simp [bne, Fin.ext_iff, beq_eq_decide]
  simp only [ztNodeFull, allZones_eq, same, Bool.and_eq_true, bne_iff_ne, decide_eq_true_eq]

theorem State.checkZt_judged (s : State) (entry : Nat) (bs : List Byte) :
    Judged (s.checkZt entry bs) (ztChecks s entry bs) := by
  refine Judged.dite (by omega) fun h => Judged.dite (by simp) fun curve => ?_
  rw [← s.ahead_zt]
  refine Judged.ite (by simp [parseZt]) fun _ => Judged.ite (by simp [parseZt]) fun _ =>
    Judged.ite (by simp [parseZt]) fun _ => Judged.ite ?_ fun _ => Judged.ite ?_ fun _ => Judged.ite ?_ fun _ =>
    .accept _
  · rw [exists_val_eq_and h]
    simp only [parseZt, fieldAddr_eq, field_one, Bool.and_eq_true, Bool.or_eq_true, beq_iff_eq, bne_iff_ne,
      ne_comm (a := addrAt bs 3), ne_comm (a := byteAt bs 4)]
  · rw [ztOutputShared_iff]
    simp only [parseZt, fieldAddr_eq, field_one]
  · rw [ztNodeFull_iff]
    simp only [parseZt, fieldAddr_eq]

/-! ### RT (R97) -/

/-- The checks of an RT write (R97). -/
def rtChecks (s : State) (entry : Nat) (bs : List Byte) : List (MgmtResult × Prop) := [
  (.badArg, 7 < entry),
  (.badState, ∃ (p : PressNo) (r : RecipeNo), r.val = entry ∧ s.presses[p].recipe = some r ∧
    s.presses[p].state.inCycle = true),
  (.badArg, 60000 < wordAt bs 16 ∨ 60000 < wordAt bs 18 ∨ 60000 < wordAt bs 20 ∨ wordAt bs 22 = 0 ∨
    wordAt bs 48 < 10 ∨ 5000 < wordAt bs 48),
  (.badState, (65536 * byteAt bs 25 + wordAt bs 26 = 0 ∨ 3 < byteAt bs 24) ∧ ∃ r : RecipeNo, r.val = entry ∧
    ((∃ p : PressNo, s.presses[p].recipe = some r) ∨ s.weigh.recipe = some r))]

theorem State.recipeInCycle_iff {s : State} {r : RecipeNo} :
    s.recipeInCycle r = true ↔ ∃ p : PressNo, s.presses[p].recipe = some r ∧ s.presses[p].state.inCycle = true := by
  simp [State.recipeInCycle, and_comm]

theorem State.recipeInUse_iff {s : State} {r : RecipeNo} :
    s.recipeInUse r = true ↔ (∃ p : PressNo, s.presses[p].recipe = some r) ∨ s.weigh.recipe = some r := by
  simp [State.recipeInUse]

theorem State.checkRt_judged (s : State) (entry : Nat) {bs : List Byte} (len : bs.length = 55) :
    Judged (s.checkRt entry bs) (rtChecks s entry bs) := by
  have words {k : Nat} (h : k + 2 ≤ 55) : field bs k 2 = wordAt bs k := field_two (by omega)
  refine Judged.dite (by omega) fun h => Judged.ite ?_ fun _ => Judged.ite ?_ fun _ => Judged.ite ?_ fun _ =>
    .accept _
  · rw [State.recipeInCycle_iff]
    exact exists_congr fun p => (exists_val_eq_and h
      (P := fun r => s.presses[p].recipe = some r ∧ s.presses[p].state.inCycle = true)).symm
  · simp [Recipe.fieldBad, parseRecipe, words, or_assoc]
  · rw [exists_val_eq_and h, ← State.recipeInUse_iff]
    simp [Recipe.valid, parseRecipe, field_three (bs := bs) (k := 25) (by omega)]

/-! ### PT (R95) -/

/-- The zone list of a content is refused: more than 6 zones, one above 15, or one twice (R95). -/
def ZonesRefused (bs : List Byte) : Prop :=
  6 < byteAt bs 0 ∨ (∃ k < byteAt bs 0, 15 < byteAt bs (1 + k)) ∨
    ∃ k < byteAt bs 0, ∃ j < k, byteAt bs (1 + j) = byteAt bs (1 + k)

theorem ZonesRefused.few {bs : List Byte} (good : ¬ZonesRefused bs) : byteAt bs 0 ≤ 6 :=
  Nat.le_of_not_lt fun many => good (.inl many)

theorem ZonesRefused.zones {bs : List Byte} (good : ¬ZonesRefused bs) (k : Nat) (inside : k < byteAt bs 0) :
    byteAt bs (1 + k) ≤ 15 := Nat.le_of_not_lt fun past => good (.inr (.inl ⟨k, inside, past⟩))

/-- The checks of a PT write (R95). -/
def ptChecks (s : State) (entry : Nat) (bs : List Byte) : List (MgmtResult × Prop) := [
  (.badArg, 3 < entry),
  (.badState, s.mode = .run ∧ ∃ p : PressNo, p.val = entry ∧ s.presses[p].state ≠ .idle),
  (.badArg, ZonesRefused bs),
  (.badArg, 47 < (addrAt bs 15).toNat ∨ 47 < (addrAt bs 17).toNat), (.badArg, byteAt bs 0 ≠ 0 ∧ addrAt bs 15 = 0),
  (.badArg, ∃ k ∈ [19, 21, 23], wordAt bs k < 100 ∨ 60000 < wordAt bs k),
  (.badArg, ∃ k < byteAt bs 0, ∃ p : PressNo, p.val ≠ entry ∧ ∃ z ∈ s.tables.pt[p].zones,
    z.val = byteAt bs (1 + k))]

theorem ptZoneBytes_eq {bs : List Byte} (len : bs.length = 25) (few : byteAt bs 0 ≤ 6) :
    ptZoneBytes bs = (List.range (byteAt bs 0)).map (fun k => byteAt bs (1 + k)) := by
  refine List.ext_getElem ?_ fun k inside _ => ?_
  · simp [ptZoneBytes]
    omega
  · have inside : k < byteAt bs 0 ∧ k < bs.length - 1 := by simpa [ptZoneBytes] using inside
    simp [ptZoneBytes, byteAt, List.getElem?_eq_getElem (show 1 + k < bs.length by omega), Nat.add_comm k 1]

/-- A value stands twice in a list by places. -/
theorem not_nodup_map_range {n : Nat} {f : Nat → Nat} :
    ¬((List.range n).map f).Nodup ↔ ∃ k < n, ∃ j < k, f j = f k := by
  rw [List.nodup_map_iff_inj_on List.nodup_range]
  constructor
  · intro repeats
    by_contra! none
    refine repeats fun x hx y hy same => ?_
    rw [List.mem_range] at hx hy
    rcases Nat.lt_trichotomy x y with less | equal | more
    · exact absurd same (none y hy x less)
    · exact equal
    · exact absurd same.symm (none x hx y more)
  · rintro ⟨k, hk, j, hj, same⟩ inj
    exact absurd (inj j (List.mem_range.mpr (by omega)) k (List.mem_range.mpr hk) same) (by omega)

theorem ptZonesBad_iff {bs : List Byte} (len : bs.length = 25) :
    ptZonesBad bs = true ↔ ZonesRefused bs := by
  unfold ZonesRefused
  by_cases many : 6 < byteAt bs 0
  · simp [ptZonesBad, many]
  · have few : byteAt bs 0 ≤ 6 := Nat.le_of_not_lt many
    simp only [ptZonesBad, field_one, many, ptZoneBytes_eq len few, decide_false, Bool.false_or, Bool.or_eq_true,
      Bool.not_eq_true', decide_eq_false_iff_not, not_nodup_map_range, false_or]
    simp

/-- A zone list that is not refused holds the zones that its bytes name. -/
theorem mem_zones_parsePt {bs : List Byte} (len : bs.length = 25) (few : byteAt bs 0 ≤ 6)
    (zones : ∀ k < byteAt bs 0, byteAt bs (1 + k) ≤ 15) (z : ZoneNo) :
    z ∈ (parsePt bs).zones ↔ ∃ k < byteAt bs 0, z.val = byteAt bs (1 + k) := by
  simp only [parsePt, ptZoneBytes_eq len few, List.map_map, List.mem_map, List.mem_range, Function.comp_apply]
  refine exists_congr fun k => and_congr_right fun inside => ?_
  have small := zones k inside
  rw [Fin.ext_iff, Fin.val_ofNat, Nat.mod_eq_of_lt (by omega), eq_comm]

theorem State.checkPt_judged (s : State) (entry : Nat) {bs : List Byte} (len : bs.length = 25) :
    Judged (s.checkPt entry bs) (ptChecks s entry bs) := by
  have words {k : Nat} (h : k + 2 ≤ 25) : field bs k 2 = wordAt bs k := field_two (by omega)
  refine Judged.dite (by omega) fun h => Judged.ite ?_ fun _ => Judged.ite (ptZonesBad_iff len) fun good =>
    Judged.ite ?_ fun _ => Judged.ite ?_ fun _ => Judged.ite ?_ fun _ => Judged.ite ?_ fun _ => .accept _
  · rw [exists_val_eq_and h]
    simp
  · simp [parsePt]
  · simp [parsePt, ptZoneBytes_eq len (ZonesRefused.few good)]
  · simp [parsePt, timeoutBad, words, or_assoc]
  · simp only [State.ptZonesTaken, List.any_eq_true, mem_allPresses, true_and, Bool.and_eq_true, bne_iff_ne, ne_eq,
      List.contains_iff_mem, mem_zones_parsePt len (ZonesRefused.few good) (ZonesRefused.zones good), Fin.ext_iff]
    constructor
    · rintro ⟨q, other, z, ⟨k, inside, byte⟩, taken⟩
      exact ⟨k, inside, q, other, z, taken, byte⟩
    · rintro ⟨k, inside, q, other, z, taken, byte⟩
      exact ⟨q, other, z, ⟨k, inside, byte⟩, taken⟩

/-! ### GT, SYS and ACC (R98, R160, R151) -/

theorem GateClass.ofCode_eq_none {n : Nat} : GateClass.ofCode n = Option.none ↔ 3 < n := by
  match n with
  | 0 | 1 | 2 | 3 => decide
  | n + 4 => exact ⟨fun _ => by omega, fun _ => rfl⟩

theorem GateClass.code_of_ofCode {n : Nat} {c : GateClass} (h : GateClass.ofCode n = some c) : c.code = n := by
  match n with
  | 0 | 1 | 2 | 3 =>
    cases h
    rfl
  | n + 4 => cases h

theorem GateClass.code_eq_zero {c : GateClass} : c.code = 0 ↔ c = .none := by cases c <;> simp [GateClass.code]

/-- The checks of a GT write (R98). -/
def gtChecks (s : State) (entry : Nat) (bs : List Byte) : List (MgmtResult × Prop) := [
  (.badArg, 15 < entry), (.badState, s.mode = .run), (.badArg, 3 < byteAt bs 2 ∨ 3 < byteAt bs 3),
  (.badArg, byteAt bs 2 ≠ 0 ∧ (addrAt bs 0 = 0 ∨ 47 < (addrAt bs 0).toNat)),
  (.badArg, byteAt bs 2 ≠ 0 ∧ ∃ j : Fin 16, j.val ≠ entry ∧ s.tables.gt[j].cls ≠ .none ∧
    s.tables.gt[j].dest = addrAt bs 0 ∧ s.tables.gt[j].code = bs.getD 1 0)]

@[simp] theorem mem_allGt (i : Fin 16) : i ∈ allGt := by
  revert i
  decide

theorem State.checkGt_judged (s : State) (entry : Nat) (bs : List Byte) :
    Judged (s.checkGt entry bs) (gtChecks s entry bs) := by
  refine Judged.dite (by omega) fun h => Judged.ite (by simp) fun _ => ?_
  simp only [field_one]
  cases code : GateClass.ofCode (byteAt bs 2) with
  | none =>
    have past := GateClass.ofCode_eq_none.mp code
    exact ⟨fun _ => rfl, fun small => absurd (.inl past) small⟩
  | some cls =>
    have number := GateClass.code_of_ofCode code
    have known : ¬3 < byteAt bs 2 := fun past => by simp [GateClass.ofCode_eq_none.mpr past] at code
    refine Judged.dite (by omega) fun press => ?_
    by_cases none : cls = .none
    · have zero : byteAt bs 2 = 0 := by rw [← number, GateClass.code_eq_zero.mpr none]
      rw [if_pos (by simp [none])]
      exact ⟨fun fails => absurd zero fails.1, fun _ => ⟨fun fails => absurd zero fails.1, fun _ => .accept _⟩⟩
    · have live : byteAt bs 2 ≠ 0 := fun zero => none (GateClass.code_eq_zero.mp (number.trans zero))
      rw [if_neg (by simpa using none)]
      refine Judged.ite (by simp [live]) fun _ => Judged.ite ?_ fun _ => .accept _
      simp [State.gtCollides, live, Fin.ext_iff, and_assoc]

/-- The checks of a SYS write (R160). -/
def sysChecks (s : State) (entry : Nat) (bs : List Byte) : List (MgmtResult × Prop) := [
  (.badArg, entry ≠ 0), (.badState, s.mode = .run),
  (.badArg, byteAt bs 0 < 1 ∨ 64 < byteAt bs 0 ∨ byteAt bs 1 = 0 ∨ wordAt bs 2 < 5 ∨ 1000 < wordAt bs 2 ∨
    byteAt bs 4 < 1 ∨ 50 < byteAt bs 4 ∨ 1 < byteAt bs 5 ∨ wordAt bs 8 = 0 ∨ 1000 < wordAt bs 11 ∨
    wordAt bs 13 = 0 ∨ 60000 < wordAt bs 13 ∨ 47 < (addrAt bs 15).toNat ∨
    (byteAt bs 16 ≠ 1 ∧ byteAt bs 16 ≠ 4) ∨ byteAt bs 17 = 0 ∨ 64 < byteAt bs 17 ∨ 63 < byteAt bs 18 ∨
    62 < (addrAt bs 19).toNat)]

theorem State.checkSys_judged (s : State) (entry : Nat) {bs : List Byte} (len : bs.length = 20) :
    Judged (s.checkSys entry bs) (sysChecks s entry bs) := by
  have words {k : Nat} (h : k + 2 ≤ 20) : field bs k 2 = wordAt bs k := field_two (by omega)
  refine Judged.ite (by simp) fun _ => Judged.ite (by simp) fun _ => Judged.ite ?_ fun _ => .accept _
  simp only [sysFieldBad, parseSys, words, field_one, fieldAddr_eq, Bool.or_eq_true, Bool.and_eq_true,
    decide_eq_true_eq, beq_iff_eq, bne_iff_ne, or_assoc, Nat.reduceAdd, Nat.reduceLeDiff]

theorem Level.ofCode_eq_none {n : Nat} : Level.ofCode n = none ↔ 1 < n := by
  match n with
  | 0 | 1 => decide
  | n + 2 => exact ⟨fun _ => by omega, fun _ => rfl⟩

theorem Level.code_of_ofCode {n : Nat} {l : Level} (h : Level.ofCode n = some l) : l.code = n := by
  match n with
  | 0 | 1 =>
    cases h
    rfl
  | n + 2 => cases h

@[simp] theorem mem_allAcc (i : Fin 4) : i ∈ allAcc := mem_allPresses i

/-- The checks of an ACC write (R151). -/
def accChecks (s : State) (entry : Nat) (bs : List Byte) : List (MgmtResult × Prop) := [
  (.badArg, 3 < entry), (.badState, s.mode = .run),
  (.badArg, byteAt bs 0 ≠ 255 ∧ (62 < byteAt bs 0 ∨ addrAt bs 0 = s.own ∨ 1 < byteAt bs 1)),
  (.badArg, byteAt bs 0 ≠ 255 ∧ ∃ (j : Fin 4) (x : AccEntry), j.val ≠ entry ∧ s.agent.acc[j] = some x ∧
    x.addr = addrAt bs 0),
  (.badArg, (byteAt bs 0 = 255 ∨ byteAt bs 1 = 0) ∧ ∀ (j : Fin 4) (x : AccEntry), j.val ≠ entry →
    s.agent.acc[j] = some x → x.level = .read)]

/-- The requester entry that a content carries: none for the address byte 255, refused for an address that is not a
requester's or a level that is none (R151). -/
theorem State.parseAcc_eq (s : State) (bs : List Byte) :
    s.parseAcc bs =
      if byteAt bs 0 = 255 then some none
      else if 62 < byteAt bs 0 ∨ addrAt bs 0 = s.own then none
      else (Level.ofCode (byteAt bs 1)).map (fun l => some { addr := addrAt bs 0, level := l }) := by
  simp only [State.parseAcc, field_one, fieldAddr_eq, beq_iff_eq, Bool.or_eq_true, decide_eq_true_eq]

theorem State.accAddrTaken_iff {s : State} {i : Fin 4} {a : Addr} :
    s.accAddrTaken i a = true ↔
      ∃ (j : Fin 4) (x : AccEntry), j.val ≠ i.val ∧ s.agent.acc[j] = some x ∧ x.addr = a := by
  simp [State.accAddrTaken, Option.any_eq_true, Fin.ext_iff]

theorem Level.ne_write {l : Level} : l ≠ .write ↔ l = .read := by cases l <;> simp

theorem State.accKeepsWriter_eq_false {s : State} {i : Fin 4} {e : Option AccEntry} :
    ¬s.accKeepsWriter i e = true ↔ (∀ x, e = some x → x.level = .read) ∧
      ∀ (j : Fin 4) (x : AccEntry), j.val ≠ i.val → s.agent.acc[j] = some x → x.level = .read := by
  simp [State.accKeepsWriter, Option.any_eq_true, Fin.ext_iff, Level.ne_write]
  exact fun _ => ⟨fun none j x other => none j other x, fun none j other x => none j x other⟩

theorem State.checkAcc_judged (s : State) (entry : Nat) (bs : List Byte) :
    Judged (s.checkAcc entry bs) (accChecks s entry bs) := by
  refine Judged.dite (by omega) fun h => Judged.ite (by simp) fun _ => ?_
  rw [s.parseAcc_eq]
  by_cases empty : byteAt bs 0 = 255
  · rw [if_pos empty]
    refine ⟨fun fails => absurd empty fails.1, fun _ => ⟨fun fails => absurd empty fails.1, fun _ => ?_⟩⟩
    simp only [Option.any_none, Bool.false_eq_true, if_false, Bool.not_eq_true']
    refine Judged.ite ?_ fun _ => .accept _
    rw [← Bool.not_eq_true, State.accKeepsWriter_eq_false]
    simp [empty]
  · rw [if_neg empty]
    by_cases foreign : 62 < byteAt bs 0 ∨ addrAt bs 0 = s.own
    · rw [if_pos foreign]
      exact ⟨fun _ => rfl, fun good => absurd ⟨empty, by tauto⟩ good⟩
    · rw [if_neg foreign]
      cases code : Level.ofCode (byteAt bs 1) with
      | none =>
        have past := Level.ofCode_eq_none.mp code
        exact ⟨fun _ => rfl, fun good => absurd ⟨empty, .inr (.inr past)⟩ good⟩
      | some level =>
        have number := Level.code_of_ofCode code
        have read : level = .read ↔ byteAt bs 1 = 0 := by rw [← number]; cases level <;> simp [Level.code]
        have known : ¬1 < byteAt bs 1 := fun past => by simp [Level.ofCode_eq_none.mpr past] at code
        refine ⟨fun fails => by tauto, fun _ => ?_⟩
        simp only [Option.map_some, Option.any_some, Bool.not_eq_true']
        refine Judged.ite ?_ fun _ => Judged.ite ?_ fun _ => .accept _
        · rw [State.accAddrTaken_iff]
          simp [empty]
        · rw [← Bool.not_eq_true, State.accKeepsWriter_eq_false]
          simp [empty, read]

end Sys2Proof.Machine

/-! ## What an accepted write holds (R26, R40, R47, R56, R95, R97, R98, R151, R160) -/

namespace Sys2Proof.Machine

open Sys2Proof

theorem cht_of_accepted {s : State} {entry : Nat} {bs : List Byte} {i : Fin 64} {e : ChtEntry}
    (accepted : s.checkWrite 0 entry bs = .accept (.cht i e)) :
    e.node = addrAt bs 0 ∧ e.channel = byteAt bs 1 ∧ e.role.code = byteAt bs 2 ∧ e.ageUnits = byteAt bs 4 ∧
    e.index = (if e.role = .none ∨ e.role = .weigh then 0 else byteAt bs 3) ∧
    e.channel ≤ 15 ∧ 1 ≤ e.ageUnits ∧ e.ageUnits ≤ 255 ∧ (e.role ≠ .none → e.target.isSome = true) ∧
    (e.role ≠ .none → ∀ j : Fin 64, j ≠ i → s.ahead.cht[j].role ≠ .none →
      ¬(s.ahead.cht[j].node = e.node ∧ s.ahead.cht[j].channel = e.channel) ∧ s.ahead.cht[j].target ≠ e.target) := by
  obtain ⟨h, role, code, good, channel, age, free, same⟩ := State.checkCht_eq_accept.mp accepted
  cases same
  rw [← s.ahead_cht] at free
  rw [field_one] at code good channel age
  have small := byteAt_lt bs 4
  refine ⟨fieldAddr_eq bs 0, field_one bs 1, Role.code_of_ofCode code, field_one bs 4, ?_, ?_, ?_, ?_,
    fun live => ?_, fun live j other active => ?_⟩
  · cases role <;> simp [chtEntryOf, roleIndexStored]
  · simpa [chtEntryOf] using channel
  · simp only [chtEntryOf, field_one]
    omega
  · simp only [chtEntryOf, field_one]
    omega
  · have inside := roleIndexStored_lt good live
    have room : role.targets.1 + roleIndexStored role (byteAt bs 3) < 29 := by
      cases role <;> simp only [Role.targets] at inside ⊢ <;> omega
    have bound : (chtEntryOf bs role).target = some ⟨_, room⟩ := by
      rw [ChtEntry.target, targetOf_eq_some]
      simpa [chtEntryOf, roleIndexStored_twice] using inside
    rw [bound]
    rfl
  · exact chtApart_of_collides free (bne_iff_ne.mpr live) j other (bne_iff_ne.mpr active)

theorem lin_of_accepted {s : State} {entry : Nat} {bs : List Byte} {i : Fin 2} {c : List Breakpoint}
    (len : bs.length = 52) (accepted : s.checkWrite 1 entry bs = .accept (.lin i c)) :
    c = (List.range 13).map (fun k => { raw := wordAt bs (4 * k), temp := intAt bs (4 * k + 2) }) ∧
      c.Pairwise (fun a b => a.raw < b.raw) ∧ ∀ b ∈ c, -400 ≤ b.temp ∧ b.temp ≤ 4000 := by
  obtain ⟨h, same⟩ := lin_of_checkLin accepted
  cases same
  have judged := checkLin_judged entry len
  rw [show checkLin entry bs = _ from accepted] at judged
  obtain ⟨-, temps, ascending, -⟩ := judged.noneFails
  refine ⟨parseCurve_eq len, ?_, ?_⟩
  · rw [parseCurve_eq len, List.pairwise_map]
    have chain : (List.range 13).IsChain (fun j k => wordAt bs (4 * j) < wordAt bs (4 * k)) :=
      (List.isChain_range_succ _ 12).mpr fun k inside => Nat.lt_of_not_le fun flat => ascending ⟨k, inside, flat⟩
    have trans : Trans (fun j k => wordAt bs (4 * j) < wordAt bs (4 * k))
        (fun j k => wordAt bs (4 * j) < wordAt bs (4 * k)) (fun j k => wordAt bs (4 * j) < wordAt bs (4 * k)) :=
      ⟨Nat.lt_trans⟩
    exact List.isChain_iff_pairwise.mp chain
  · intro b mem
    rw [parseCurve_eq len] at mem
    obtain ⟨k, inside, rfl⟩ := List.mem_map.mp mem
    have good := not_exists.mp temps k
    have inside := List.mem_range.mp inside
    show -400 ≤ intAt bs (4 * k + 2) ∧ intAt bs (4 * k + 2) ≤ 4000
    omega

theorem crt_of_accepted {s : State} {entry : Nat} {bs : List Byte} {i : Fin 4} {r : List Nat}
    (len : bs.length = 48) (accepted : s.checkWrite 2 entry bs = .accept (.crt i r)) :
    r = (List.range 24).map (fun k => wordAt bs (2 * k)) ∧ ∀ x ∈ r, x ≤ 4095 := by
  obtain ⟨h, same⟩ := crt_of_checkCrt accepted
  cases same
  have judged := checkCrt_judged entry len
  rw [show checkCrt entry bs = _ from accepted] at judged
  obtain ⟨-, rates, -⟩ := judged.noneFails
  refine ⟨parseWords_crt len, fun x mem => ?_⟩
  rw [parseWords_crt len] at mem
  obtain ⟨k, inside, rfl⟩ := List.mem_map.mp mem
  exact Nat.le_of_not_lt fun past => rates ⟨k, List.mem_range.mp inside, past⟩

/-- One zone more than the others of a heater node, where each zone is listed once. -/
theorem length_filter_own_le (z : ZoneNo) (p : ZoneNo → Bool) {l : List ZoneNo} (once : l.Nodup) :
    (l.filter (fun j => j == z || p j)).length ≤ (l.filter (fun j => j.val != z.val && p j)).length + 1 := by
  have apart : ∀ l : List ZoneNo, (l.filter (fun j => j == z || p j)).length ≤
      (l.filter (fun j => j.val != z.val && p j)).length + l.count z := by
    intro l
    induction l with
    | nil => simp
    | cons j rest ih =>
      by_cases own : j = z
      · simp [own]
        omega
      · have other : j.val ≠ z.val := fun same => own (Fin.ext same)
        cases heater : p j with
        | true => simp [own, other, heater]; omega
        | false => simp [own, heater]; omega
  have single := List.nodup_iff_count_le_one.mp once z
  have all := apart l
  omega

theorem zt_of_accepted {s : State} {entry : Nat} {bs : List Byte} {z : ZoneNo} {e : ZtEntry}
    (len : bs.length = 8) (accepted : s.checkWrite 3 entry bs = .accept (.zt z e)) :
    e.curve.val = byteAt bs 0 ∧
    e = { curve := e.curve, offset := max (-100) (min 100 (intAt bs 1)), heater := addrAt bs 3,
          channel := byteAt bs 4, fallback := min 1000 (wordAt bs 5), grace := byteAt bs 7 } ∧
    e.heater.toNat ≤ 47 ∧ e.channel ≤ 15 ∧ e.grace ≤ 15 ∧
    (s.mode = .run → e.heater = s.ahead.zt[z].heater ∧ e.channel = s.ahead.zt[z].channel) ∧
    (e.heater ≠ 0 →
      (∀ j : ZoneNo, j ≠ z → ¬(s.ahead.zt[j].heater = e.heater ∧ s.ahead.zt[j].channel = e.channel)) ∧
      ((List.finRange 16).filter (fun j : ZoneNo => j == z || s.ahead.zt[j].heater == e.heater)).length ≤ 8) := by
  obtain ⟨h, curve, same⟩ := State.zt_of_checkZt accepted
  cases same
  have judged := s.checkZt_judged entry bs
  rw [show s.checkZt entry bs = _ from accepted] at judged
  obtain ⟨-, -, heater, channel, grace, moved, shared, full, -⟩ := judged.noneFails
  have content : parseZt bs ⟨field bs 0 1, curve⟩ =
      ⟨⟨field bs 0 1, curve⟩, max (-100) (min 100 (intAt bs 1)), addrAt bs 3, byteAt bs 4, min 1000 (wordAt bs 5),
        byteAt bs 7⟩ := by
    simp only [parseZt, clampInt, fieldAddr_eq, field_one, field_two (bs := bs) (k := 5) (by omega),
      fieldInt_eq (bs := bs) (k := 1) (by omega)]
  rw [content]
  refine ⟨field_one bs 0, rfl, Nat.le_of_not_lt heater, Nat.le_of_not_lt channel, Nat.le_of_not_lt grace,
    fun run => ?_, fun wired => ⟨fun j other taken => ?_, ?_⟩⟩
  · rw [exists_val_eq_and h, not_and, not_or, not_not, not_not] at moved
    obtain ⟨sameHeater, sameChannel⟩ := moved run
    exact ⟨sameHeater.symm, sameChannel.symm⟩
  · exact shared ⟨wired, j, fun same => other (Fin.ext same), taken⟩
  · have others := length_filter_own_le ⟨entry, h⟩ (fun j => s.ahead.zt[j].heater == addrAt bs 3)
      (List.nodup_finRange 16)
    have few := not_le.mp fun many => full ⟨wired, many⟩
    exact others.trans few

theorem rt_of_accepted {s : State} {entry : Nat} {bs : List Byte} {i : RecipeNo} {r : Recipe}
    (len : bs.length = 55) (accepted : s.checkWrite 4 entry bs = .accept (.rt i r)) :
    r = { setpoints := (List.range 6).map (fun k => min 3500 (wordAt bs (2 * k))), kp := byteAt bs 12,
          ki := byteAt bs 13, ceiling := min 1000 (wordAt bs 14), target := wordAt bs 16, tolLow := wordAt bs 18,
          tolHigh := wordAt bs 20, outTime := wordAt bs 22, cureTable := byteAt bs 24,
          threshold := 65536 * byteAt bs 25 + wordAt bs 26, dwell := wordAt bs 28, openHold := wordAt bs 30,
          segMax := (List.range 8).map (fun k => wordAt bs (32 + 2 * k)), segLen := wordAt bs 48,
          peakLimit := wordAt bs 50, debounce := max 1 (min 8 (byteAt bs 52)), retries := min 3 (byteAt bs 53),
          overrideOk := (bs.getD 54 0).getLsbD 0 } ∧
    r.target ≤ 60000 ∧ r.tolLow ≤ 60000 ∧ r.tolHigh ≤ 60000 ∧ 1 ≤ r.outTime ∧ 10 ≤ r.segLen ∧
    r.segLen ≤ 5000 ∧
    (∀ p : PressNo, s.presses[p].recipe = some i → s.presses[p].state.inCycle = false) ∧
    ((∃ p : PressNo, s.presses[p].recipe = some i) ∨ s.weigh.recipe = some i →
      0 < r.threshold ∧ r.cureTable ≤ 3) := by
  obtain ⟨h, same⟩ := State.rt_of_checkRt accepted
  cases same
  have judged := s.checkRt_judged entry len
  rw [show s.checkRt entry bs = _ from accepted] at judged
  obtain ⟨-, cycling, ranges, invalid, -⟩ := judged.noneFails
  have words {k : Nat} (inside : k + 2 ≤ 55) : field bs k 2 = wordAt bs k := field_two (by omega)
  have content : (parseRecipe bs).clamped = ⟨(List.range 6).map (fun k => min 3500 (wordAt bs (2 * k))), byteAt bs 12,
      byteAt bs 13, min 1000 (wordAt bs 14), wordAt bs 16, wordAt bs 18, wordAt bs 20, wordAt bs 22, byteAt bs 24,
      65536 * byteAt bs 25 + wordAt bs 26, wordAt bs 28, wordAt bs 30,
      (List.range 8).map (fun k => wordAt bs (32 + 2 * k)), wordAt bs 48, wordAt bs 50,
      max 1 (min 8 (byteAt bs 52)), min 3 (byteAt bs 53), (bs.getD 54 0).getLsbD 0⟩ := by
    simp only [Recipe.clamped, parseRecipe, field_one, fieldFlag_eq, words, Nat.reduceAdd, Nat.reduceLeDiff,
      field_three (bs := bs) (k := 25) (by omega), parseWords_eq bs 0 6 (by omega), parseWords_eq bs 32 8 (by omega),
      List.map_map, Function.comp_def, Nat.zero_add]
  rw [content]
  dsimp only
  refine ⟨rfl, by omega, by omega, by omega, by omega, by omega, by omega, fun p has => ?_, fun used => ?_⟩
  · refine Bool.eq_false_iff.mpr fun inCycle => cycling ⟨p, ⟨entry, h⟩, rfl, has, inCycle⟩
  · have valid := not_and.mp invalid
    by_contra wrong
    exact valid (by omega) ⟨⟨entry, h⟩, rfl, used⟩

theorem pt_of_accepted {s : State} {entry : Nat} {bs : List Byte} {p : PressNo} {e : PtEntry}
    (len : bs.length = 25) (accepted : s.checkWrite 5 entry bs = .accept (.pt p e)) :
    e.zones.map (·.val) = (List.range (byteAt bs 0)).map (fun k => byteAt bs (1 + k)) ∧
    e = { zones := e.zones, closedAt := wordAt bs 7, openAt := wordAt bs 9, outAt := wordAt bs 11,
          homeAt := wordAt bs 13, ejector := addrAt bs 15, haltCode := bs.getD 16 0, marker := addrAt bs 17,
          guardUsed := (bs.getD 18 0).getLsbD 0, closeMs := wordAt bs 19, openMs := wordAt bs 21,
          ejectMs := wordAt bs 23 } ∧
    e.zones.length ≤ 6 ∧ e.zones.Nodup ∧ e.ejector.toNat ≤ 47 ∧ e.marker.toNat ≤ 47 ∧
    (e.zones ≠ [] → e.ejector ≠ 0) ∧ 100 ≤ e.closeMs ∧ e.closeMs ≤ 60000 ∧ 100 ≤ e.openMs ∧
    e.openMs ≤ 60000 ∧ 100 ≤ e.ejectMs ∧ e.ejectMs ≤ 60000 ∧
    (∀ q : PressNo, q ≠ p → ∀ z ∈ e.zones, z ∉ s.tables.pt[q].zones) ∧
    (s.mode = .run → s.presses[p].state = .idle) := by
  obtain ⟨h, same⟩ := State.pt_of_checkPt accepted
  cases same
  have judged := s.checkPt_judged entry len
  rw [show s.checkPt entry bs = _ from accepted] at judged
  obtain ⟨-, busy, list, nodes, ejector, times, taken, -⟩ := judged.noneFails
  have words {k : Nat} (inside : k + 2 ≤ 25) : field bs k 2 = wordAt bs k := field_two (by omega)
  have few := ZonesRefused.few list
  have bytes : (parsePt bs).zones.map (·.val) = (List.range (byteAt bs 0)).map (fun k => byteAt bs (1 + k)) := by
    simp only [parsePt, ptZoneBytes_eq len few, List.map_map]
    refine List.map_congr_left fun k mem => ?_
    have small := ZonesRefused.zones list k (List.mem_range.mp mem)
    exact Nat.mod_eq_of_lt (Nat.lt_succ_of_le small)
  have count : (parsePt bs).zones.length = byteAt bs 0 := by simpa using congrArg List.length bytes
  have once : (parsePt bs).zones.Nodup := by
    refine List.Nodup.of_map (·.val) ?_
    rw [bytes]
    exact not_not.mp fun repeats => list (.inr (.inr (not_nodup_map_range.mp repeats)))
  have limits (k : Nat) (mem : k ∈ [19, 21, 23]) : 100 ≤ wordAt bs k ∧ wordAt bs k ≤ 60000 := by
    have good : ¬(wordAt bs k < 100 ∨ 60000 < wordAt bs k) := fun bad => times ⟨k, mem, bad⟩
    omega
  have content : parsePt bs = ⟨(parsePt bs).zones, wordAt bs 7, wordAt bs 9, wordAt bs 11, wordAt bs 13, addrAt bs 15,
      bs.getD 16 0, addrAt bs 17, (bs.getD 18 0).getLsbD 0, wordAt bs 19, wordAt bs 21, wordAt bs 23⟩ := by
    simp only [parsePt, fieldAddr_eq, field_one, byteOf_byteAt, fieldFlag_eq, words, Nat.reduceAdd, Nat.reduceLeDiff]
  rw [content]
  dsimp only
  refine ⟨bytes, rfl, by omega, once, by omega, by omega, fun some none => ejector ⟨fun empty => some ?_, none⟩,
    (limits 19 (by simp)).1, (limits 19 (by simp)).2, (limits 21 (by simp)).1, (limits 21 (by simp)).2,
    (limits 23 (by simp)).1, (limits 23 (by simp)).2, fun q other z mem held => ?_, fun run => ?_⟩
  · exact List.length_eq_zero_iff.mp (count.trans empty)
  · obtain ⟨k, inside, byte⟩ := (mem_zones_parsePt len few (ZonesRefused.zones list) z).mp mem
    exact taken ⟨k, inside, q, fun same => other (Fin.ext same), z, held, byte⟩
  · exact not_not.mp fun moving => busy ⟨run, ⟨entry, h⟩, rfl, moving⟩

theorem Mode.eq_config {m : Mode} (stopped : m ≠ .run) : m = .config := by
  cases m with
  | config => rfl
  | run => exact absurd rfl stopped

theorem gt_of_accepted {s : State} {entry : Nat} {bs : List Byte} {i : Fin 16} {e : GtEntry}
    (accepted : s.checkWrite 6 entry bs = .accept (.gt i e)) :
    s.mode = .config ∧ e.cls.code = byteAt bs 2 ∧ byteAt bs 3 ≤ 3 ∧
    (e.cls = .none → e = { dest := 0, code := 0, cls := .none, press := 0 }) ∧
    (e.cls ≠ .none → e.dest = addrAt bs 0 ∧ e.code = bs.getD 1 0 ∧ e.press.val = byteAt bs 3 ∧ 1 ≤ e.dest.toNat ∧
      e.dest.toNat ≤ 47 ∧ ∀ j : Fin 16, j ≠ i → s.tables.gt[j].cls ≠ .none →
        ¬(s.tables.gt[j].dest = e.dest ∧ s.tables.gt[j].code = e.code)) := by
  obtain ⟨h, cls, press, code, same⟩ := State.gt_of_checkGt accepted
  cases same
  have judged := s.checkGt_judged entry bs
  rw [show s.checkGt entry bs = _ from accepted] at judged
  obtain ⟨-, stopped, fields, dest, free, -⟩ := judged.noneFails
  have config := Mode.eq_config stopped
  rw [field_one] at code
  have number := GateClass.code_of_ofCode code
  by_cases none : cls = .none
  · subst none
    exact ⟨config, number, by omega, fun _ => rfl, fun live => absurd rfl live⟩
  · have live : byteAt bs 2 ≠ 0 := fun zero => none (GateClass.code_eq_zero.mp (number.trans zero))
    have content : gtEntryOf bs cls ⟨field bs 3 1, press⟩ = ⟨addrAt bs 0, bs.getD 1 0, cls, ⟨field bs 3 1, press⟩⟩ := by
      rw [gtEntryOf, if_neg none, fieldAddr_eq, field_one, byteOf_byteAt]
    have wired : addrAt bs 0 ≠ 0 := fun zero => dest ⟨live, .inl zero⟩
    have node : (addrAt bs 0).toNat ≤ 47 := Nat.le_of_not_lt fun past => dest ⟨live, .inr past⟩
    rw [content]
    refine ⟨config, number, by omega, fun empty => absurd empty none, fun _ =>
      ⟨rfl, rfl, field_one bs 3, ?_, node, fun j other active taken => ?_⟩⟩
    · exact Nat.one_le_iff_ne_zero.mpr fun zero => wired (BitVec.eq_of_toNat_eq zero)
    · exact free ⟨live, j, fun same => other (Fin.ext same), active, taken⟩

theorem sys_of_accepted {s : State} {entry : Nat} {bs : List Byte} {y : Sys}
    (len : bs.length = 20) (accepted : s.checkWrite 7 entry bs = .accept (.sys y)) :
    s.mode = .config ∧
    y = { ctrldiv := byteAt bs 0, silenceMs := byteAt bs 1, syncMs := wordAt bs 2, censusMs := byteAt bs 4,
          censusRequired := decide (byteAt bs 5 = 1), weighZero := wordAt bs 6, weighGain := wordAt bs 8,
          weighM := max 4 (min 16 (byteAt bs 10)), weighBand := wordAt bs 11, weighEmpty := wordAt bs 13,
          recorder := addrAt bs 15, paceUnit := byteAt bs 16, paceFactor := byteAt bs 17, lowMark := byteAt bs 18,
          noticeDest := addrAt bs 19 } ∧
    1 ≤ y.ctrldiv ∧ y.ctrldiv ≤ 64 ∧ 1 ≤ y.silenceMs ∧ y.silenceMs ≤ 255 ∧ 5 ≤ y.syncMs ∧ y.syncMs ≤ 1000 ∧
    1 ≤ y.censusMs ∧ y.censusMs ≤ 50 ∧ byteAt bs 5 ≤ 1 ∧ 1 ≤ y.weighGain ∧ 4 ≤ y.weighM ∧ y.weighM ≤ 16 ∧
    y.weighBand ≤ 1000 ∧ 1 ≤ y.weighEmpty ∧ y.weighEmpty ≤ 60000 ∧ y.recorder.toNat ≤ 47 ∧
    (y.paceUnit = 1 ∨ y.paceUnit = 4) ∧ 1 ≤ y.paceFactor ∧ y.paceFactor ≤ 64 ∧ y.lowMark ≤ 63 ∧
    y.noticeDest.toNat ≤ 62 := by
  obtain ⟨-, same⟩ := State.sys_of_checkSys accepted
  cases same
  have judged := s.checkSys_judged entry len
  rw [show s.checkSys entry bs = _ from accepted] at judged
  obtain ⟨-, stopped, ranges, -⟩ := judged.noneFails
  have small := byteAt_lt bs 1
  have words {k : Nat} (inside : k + 2 ≤ 20) : field bs k 2 = wordAt bs k := field_two (by omega)
  have required : (byteAt bs 5 != 0) = decide (byteAt bs 5 = 1) := by
    rw [bne, beq_eq_decide, ← decide_not, decide_eq_decide]
    omega
  have content : (parseSys bs).clamped = ⟨byteAt bs 0, byteAt bs 1, wordAt bs 2, byteAt bs 4,
      decide (byteAt bs 5 = 1), wordAt bs 6, wordAt bs 8, max 4 (min 16 (byteAt bs 10)), wordAt bs 11, wordAt bs 13,
      addrAt bs 15, byteAt bs 16, byteAt bs 17, byteAt bs 18, addrAt bs 19⟩ := by
    simp only [Sys.clamped, parseSys, fieldAddr_eq, field_one, words, Nat.reduceAdd, Nat.reduceLeDiff, required]
  rw [content]
  dsimp only
  refine ⟨Mode.eq_config stopped, rfl, ?_⟩
  omega

theorem acc_of_accepted {s : State} {entry : Nat} {bs : List Byte} {i : Fin 4} {e : Option AccEntry}
    (accepted : s.checkWrite 8 entry bs = .accept (.acc i e)) :
    s.mode = .config ∧ (e = none ↔ byteAt bs 0 = 255) ∧
    (∀ x, e = some x → x.addr.toNat = byteAt bs 0 ∧ x.level.code = byteAt bs 1 ∧ x.addr.toNat ≤ 62 ∧ x.addr ≠ s.own ∧
      ∀ j : Fin 4, j ≠ i → ∀ o, s.agent.acc[j] = some o → o.addr ≠ x.addr) ∧
    ((∃ x, e = some x ∧ x.level = .write) ∨
      ∃ j : Fin 4, j ≠ i ∧ ∃ x, s.agent.acc[j] = some x ∧ x.level = .write) := by
  obtain ⟨h, e, parsed, same⟩ := State.acc_of_checkAcc accepted
  cases same
  have judged := s.checkAcc_judged entry bs
  rw [show s.checkAcc entry bs = _ from accepted] at judged
  obtain ⟨-, stopped, foreign, taken, writer, -⟩ := judged.noneFails
  rw [s.parseAcc_eq] at parsed
  have others (read : byteAt bs 0 = 255 ∨ byteAt bs 1 = 0) :
      ∃ j : Fin 4, j ≠ ⟨entry, h⟩ ∧ ∃ x, s.agent.acc[j] = some x ∧ x.level = .write := by
    by_contra! alone
    exact writer ⟨read, fun j x other held =>
      Level.ne_write.mp (alone j (fun same => other (congrArg Fin.val same)) x held)⟩
  by_cases empty : byteAt bs 0 = 255
  · rw [if_pos empty] at parsed
    cases parsed
    exact ⟨Mode.eq_config stopped, by simp [empty], by simp, .inr (others (.inl empty))⟩
  · have good : ¬(62 < byteAt bs 0 ∨ addrAt bs 0 = s.own) := fun bad => foreign ⟨empty, by tauto⟩
    rw [if_neg empty, if_neg good, Option.map_eq_some_iff] at parsed
    obtain ⟨level, code, rfl⟩ := parsed
    have number := Level.code_of_ofCode code
    obtain ⟨small, own⟩ := not_or.mp good
    have low : byteAt bs 0 ≤ 62 := Nat.le_of_not_lt small
    have addr : (addrAt bs 0).toNat = byteAt bs 0 := by
      show ((bs.getD 0 0).setWidth 6).toNat = (bs.getD 0 0).toNat
      have low : (bs.getD 0 0).toNat ≤ 62 := low
      rw [BitVec.toNat_setWidth]
      exact Nat.mod_eq_of_lt (by omega)
    refine ⟨Mode.eq_config stopped, by simp [empty], ?_, ?_⟩
    · rintro x ⟨⟩
      refine ⟨addr, number, addr.trans_le low, own, fun j other o held same => ?_⟩
      exact taken ⟨empty, j, o, fun index => other (Fin.ext index), held, same⟩
    · cases level with
      | read => exact .inr (others (.inr number.symm))
      | write => exact .inl ⟨_, rfl, rfl⟩

/-- Settles O47: each table's checks as a list of results in order, and what the checks that passed leave of each
field. -/
theorem tableWriteChecks : Obligations.TableWriteChecks := by
  refine ⟨fun s table entry bs size => ?_, fun s table entry bs w size accepted => ?_⟩
  · have len {n : Nat} (written : writeSize table = some n) : bs.length = n :=
      Option.some.inj (size.symm.trans written)
    refine ⟨?_, ?_, ?_, ?_, ?_, ?_, ?_, ?_, ?_⟩ <;> rintro rfl
    · exact s.checkCht_judged entry bs
    · exact checkLin_judged entry (len rfl)
    · exact checkCrt_judged entry (len rfl)
    · exact s.checkZt_judged entry bs
    · exact s.checkRt_judged entry (len rfl)
    · exact s.checkPt_judged entry (len rfl)
    · exact s.checkGt_judged entry bs
    · exact s.checkSys_judged entry (len rfl)
    · exact s.checkAcc_judged entry bs
  · obtain ⟨named, number, inside⟩ := State.named_of_checkWrite accepted
    have len {n : Nat} (written : writeSize table = some n) : bs.length = n :=
      Option.some.inj (size.symm.trans written)
    refine ⟨named, number, inside, ?_, ?_, ?_, ?_, ?_, ?_, ?_, ?_, ?_⟩
    · rintro i e rfl
      cases named
      exact cht_of_accepted accepted
    · rintro i c rfl
      cases named
      exact lin_of_accepted (len rfl) accepted
    · rintro i r rfl
      cases named
      exact crt_of_accepted (len rfl) accepted
    · rintro z e rfl
      cases named
      exact zt_of_accepted (len rfl) accepted
    · rintro i r rfl
      cases named
      exact rt_of_accepted (len rfl) accepted
    · rintro p e rfl
      cases named
      exact pt_of_accepted (len rfl) accepted
    · rintro i e rfl
      cases named
      exact gt_of_accepted accepted
    · rintro y rfl
      cases named
      exact sys_of_accepted (len rfl) accepted
    · rintro i e rfl
      cases named
      exact acc_of_accepted accepted

end Sys2Proof.Machine

/-! ## Entries as read (R156, R177): the bytes of an accepted write come back -/

namespace Sys2Proof.Machine

open Sys2Proof

/-! ### Numbers and flags as bytes -/

theorem toBytes_two (n : Nat) : toBytes 2 n = [byteOf (n / 256), byteOf n] := by
  simp [toBytes, byteOf]

theorem byteOf_wordAt_high (bs : List Byte) (k : Nat) : byteOf (wordAt bs k / 256) = bs.getD k 0 := by
  have low := byteAt_lt bs (k + 1)
  rw [show wordAt bs k / 256 = byteAt bs k by unfold wordAt; omega, byteOf_byteAt]

theorem byteOf_wordAt (bs : List Byte) (k : Nat) : byteOf (wordAt bs k) = bs.getD (k + 1) 0 := by
  rw [← byteOf_byteAt]
  refine BitVec.eq_of_toNat_eq ?_
  simp only [byteOf, BitVec.toNat_ofNat, wordAt]
  omega

@[simp] theorem toBytes_wordAt (bs : List Byte) (k : Nat) :
    toBytes 2 (wordAt bs k) = [bs.getD k 0, bs.getD (k + 1) 0] := by
  rw [toBytes_two, byteOf_wordAt_high, byteOf_wordAt]

@[simp] theorem toBytes_three_wordAt (bs : List Byte) (k : Nat) :
    toBytes 3 (65536 * byteAt bs k + wordAt bs (k + 1)) = [bs.getD k 0, bs.getD (k + 1) 0, bs.getD (k + 2) 0] := by
  have low := wordAt_lt bs (k + 1)
  have high : (65536 * byteAt bs k + wordAt bs (k + 1)) / 256 ^ 2 = byteAt bs k := by omega
  have rest : toBytes 2 (65536 * byteAt bs k + wordAt bs (k + 1)) = toBytes 2 (wordAt bs (k + 1)) := by
    simp only [toBytes_two, byteOf, List.cons.injEq, and_true]
    constructor <;> refine BitVec.eq_of_toNat_eq ?_ <;> simp only [BitVec.toNat_ofNat] <;> omega
  rw [toBytes, high, rest, toBytes_wordAt]
  exact congrArg (· :: _) (byteOf_byteAt bs k)

@[simp] theorem toBytesInt_intAt (bs : List Byte) (k : Nat) :
    toBytesInt (intAt bs k) = [bs.getD k 0, bs.getD (k + 1) 0] := by
  have small := wordAt_lt bs k
  have number : (BitVec.ofInt 16 (intAt bs k)).toNat = wordAt bs k := by
    rw [BitVec.toNat_ofInt, intAt]
    split <;> omega
  rw [toBytesInt, number, toBytes_wordAt]

@[simp] theorem addrByte_addrAt (bs : List Byte) (k : Nat) : addrByte (addrAt bs k) = bs.getD k 0 &&& 63 := by
  refine BitVec.eq_of_toNat_eq ?_
  have low : (bs.getD k 0).toNat &&& (63 : Byte).toNat = (bs.getD k 0).toNat % 64 :=
    Nat.and_two_pow_sub_one_eq_mod _ 6
  rw [addrByte, addrAt, BitVec.toNat_setWidth, BitVec.toNat_setWidth, BitVec.toNat_and, low]
  omega

theorem flagByte_getLsbD_zero (b : Byte) : flagByte (b.getLsbD 0) = b &&& 1 := by
  refine BitVec.eq_of_toNat_eq ?_
  rw [flagByte, BitVec.getLsbD, Nat.testBit_zero, BitVec.toNat_and]
  have low : b.toNat &&& (1 : Byte).toNat = b.toNat % 2 := Nat.and_one_is_mod _
  rw [low]
  by_cases odd : b.toNat % 2 = 1
  · simp [odd]
  · have even : b.toNat % 2 = 0 := by omega
    simp [even]

/-- A part of a content, byte for byte. -/
theorem drop_take_eq {bs : List Byte} {k n : Nat} (h : k + n ≤ bs.length) :
    (bs.drop k).take n = (List.range n).map (fun j => bs.getD (k + j) 0) := by
  refine List.ext_getElem (by simp; omega) fun j inside _ => ?_
  have inside : j < n := by simp at inside; omega
  simp [List.getElem?_eq_getElem (show k + j < bs.length by omega)]

theorem eq_map_getD (bs : List Byte) : bs = (List.range bs.length).map (fun j => bs.getD j 0) := by
  refine List.ext_getElem (by simp) fun j inside _ => ?_
  simp [List.getElem?_eq_getElem inside]

/-! ### An applied write, read back -/

/-- The bytes that an applied write leaves in its entry. -/
def Write.storedBytes : Write → List Byte
  | .cht _ e => chtBytes e
  | .lin _ c => linEntry c
  | .crt _ r => wordsBytes r
  | .zt _ e => ztBytes e
  | .rt _ r => recipeBytes r
  | .pt _ e => ptBytes e
  | .gt _ e => gtBytes e
  | .sys y => sysBytes y
  | .acc _ e => accBytes e

theorem applyAcc_acc (s : State) (i : Fin 4) (e : Option AccEntry) :
    (s.applyAcc i e).agent.acc = s.agent.acc.set i e := by
  rw [applyAcc_agent]
  split
  · rfl
  · rfl

theorem State.entryBytes_applyWrite (s : State) (w : Write) :
    (s.applyWrite w).entryBytes w.table w.entry = w.storedBytes := by
  cases w with
  | acc i e => simp [Write.table, Write.entry, State.entryBytes, State.applyWrite, applyAcc_acc, Write.storedBytes]
  | lin i c =>
    refine (dif_pos i.isLt).trans ?_
    simp [Write.entry, State.applyWrite_tables, Tables.after, Write.storedBytes]
  | cht i e | crt i e | zt i e | rt i e | pt i e | gt i e | sys e =>
    simp [Write.table, Write.entry, State.entryBytes, State.applyWrite_tables, Tables.after, Write.storedBytes]

theorem readBack_cht {s : State} {entry : Nat} {bs : List Byte} {w : Write} (len : bs.length = 5)
    (accepted : s.checkWrite 0 entry bs = .accept w) :
    (s.applyWrite w).entryBytes 0 entry = [bs.getD 0 0 &&& 63] ++ (bs.drop 1).take 2 ++
      (if byteAt bs 2 = 0 ∨ byteAt bs 2 = 2 then [0] else (bs.drop 3).take 1) ++ (bs.drop 4).take 1 := by
  obtain ⟨h, role, -, -, -, -, -, rfl⟩ := State.checkCht_eq_accept.mp accepted
  obtain ⟨node, channel, code, age, index, -⟩ := cht_of_accepted accepted
  have stored := s.entryBytes_applyWrite (.cht ⟨entry, h⟩ (chtEntryOf bs role))
  generalize chtEntryOf bs role = e at *
  have plain : (e.role = .none ∨ e.role = .weigh) ↔ byteAt bs 2 = 0 ∨ byteAt bs 2 = 2 := by
    rw [← code]
    cases e.role <;> simp [Role.code]
  refine stored.trans ?_
  rw [Write.storedBytes, chtBytes, node, channel, code, age, index, drop_take_eq (by omega), drop_take_eq (by omega),
    drop_take_eq (by omega)]
  simp only [plain, addrByte_addrAt, byteOf_byteAt]
  split
  · rfl
  · rw [byteOf_byteAt]
    rfl

theorem readBack_lin {s : State} {entry : Nat} {bs : List Byte} {w : Write} (len : bs.length = 52)
    (accepted : s.checkWrite 1 entry bs = .accept w) : (s.applyWrite w).entryBytes 1 entry = bs ++ [1] := by
  obtain ⟨h, rfl⟩ := lin_of_checkLin accepted
  obtain ⟨points, ascending, -⟩ := lin_of_accepted len accepted
  have valid : curveValid (parseCurve bs) = true := (curveValid_iff _).mpr ascending.isChain
  have bytes : curveBytes (parseCurve bs) = bs := by
    rw [points, curveBytes, List.flatMap_map]
    simp only [toBytes_wordAt, toBytesInt_intAt]
    conv_rhs => rw [eq_map_getD bs, len]
    rfl
  refine (s.entryBytes_applyWrite (.lin ⟨entry, h⟩ (parseCurve bs))).trans ?_
  rw [Write.storedBytes, linEntry, valid, bytes]
  rfl

theorem readBack_crt {s : State} {entry : Nat} {bs : List Byte} {w : Write} (len : bs.length = 48)
    (accepted : s.checkWrite 2 entry bs = .accept w) : (s.applyWrite w).entryBytes 2 entry = bs := by
  obtain ⟨h, rfl⟩ := crt_of_checkCrt accepted
  obtain ⟨rates, -⟩ := crt_of_accepted len accepted
  refine (s.entryBytes_applyWrite (.crt ⟨entry, h⟩ (parseWords bs 0 24))).trans ?_
  rw [Write.storedBytes, rates, wordsBytes, List.flatMap_map]
  simp only [toBytes_wordAt]
  conv_rhs => rw [eq_map_getD bs, len]
  rfl

theorem readBack_zt {s : State} {entry : Nat} {bs : List Byte} {w : Write} (len : bs.length = 8)
    (accepted : s.checkWrite 3 entry bs = .accept w) :
    (s.applyWrite w).entryBytes 3 entry = (bs.drop 0).take 1 ++ toBytesInt (max (-100) (min 100 (intAt bs 1))) ++
      [bs.getD 3 0 &&& 63] ++ (bs.drop 4).take 1 ++ toBytes 2 (min 1000 (wordAt bs 5)) ++ (bs.drop 7).take 1 := by
  obtain ⟨h, curve, rfl⟩ := State.zt_of_checkZt accepted
  obtain ⟨number, content, -⟩ := zt_of_accepted len accepted
  refine (s.entryBytes_applyWrite (.zt ⟨entry, h⟩ (parseZt bs ⟨field bs 0 1, curve⟩))).trans ?_
  rw [Write.storedBytes, content, ztBytes, number, drop_take_one bs (by omega), drop_take_one bs (by omega),
    drop_take_one bs (by omega)]
  simp only [addrByte_addrAt, byteOf_byteAt, List.append_assoc]
  rfl

theorem readBack_rt {s : State} {entry : Nat} {bs : List Byte} {w : Write} (len : bs.length = 55)
    (accepted : s.checkWrite 4 entry bs = .accept w) :
    (s.applyWrite w).entryBytes 4 entry =
      (List.range 6).flatMap (fun k => toBytes 2 (min 3500 (wordAt bs (2 * k)))) ++ (bs.drop 12).take 2 ++
        toBytes 2 (min 1000 (wordAt bs 14)) ++ (bs.drop 16).take 36 ++
        [byteOf (max 1 (min 8 (byteAt bs 52))), byteOf (min 3 (byteAt bs 53)), bs.getD 54 0 &&& 1] := by
  obtain ⟨h, rfl⟩ := State.rt_of_checkRt accepted
  obtain ⟨content, -⟩ := rt_of_accepted len accepted
  refine (s.entryBytes_applyWrite (.rt ⟨entry, h⟩ (parseRecipe bs).clamped)).trans ?_
  rw [Write.storedBytes, content, recipeBytes, wordsBytes, wordsBytes, List.flatMap_map, List.flatMap_map,
    drop_take_eq (by omega), drop_take_eq (by omega)]
  simp only [flagByte_getLsbD_zero, byteOf_byteAt, toBytes_wordAt, toBytes_three_wordAt, List.append_assoc]
  rfl

theorem readBack_pt {s : State} {entry : Nat} {bs : List Byte} {w : Write} (len : bs.length = 25)
    (accepted : s.checkWrite 5 entry bs = .accept w) :
    (s.applyWrite w).entryBytes 5 entry = (bs.drop 0).take 1 ++ (bs.drop 1).take (byteAt bs 0) ++
      List.replicate (6 - byteAt bs 0) 0 ++ (bs.drop 7).take 8 ++ [bs.getD 15 0 &&& 63] ++ (bs.drop 16).take 1 ++
      [bs.getD 17 0 &&& 63, bs.getD 18 0 &&& 1] ++ (bs.drop 19).take 6 := by
  obtain ⟨h, rfl⟩ := State.pt_of_checkPt accepted
  obtain ⟨zones, content, few, -⟩ := pt_of_accepted len accepted
  have count : (parsePt bs).zones.length = byteAt bs 0 := by simpa using congrArg List.length zones
  have names : (parsePt bs).zones.map (fun z => byteOf z.val) = (bs.drop 1).take (byteAt bs 0) := by
    have bytes := congrArg (List.map byteOf) zones
    simp only [List.map_map, Function.comp_def, byteOf_byteAt] at bytes
    rw [bytes, drop_take_eq (by omega)]
  have list : zoneListBytes (parsePt bs).zones =
      (bs.drop 0).take 1 ++ (bs.drop 1).take (byteAt bs 0) ++ List.replicate (6 - byteAt bs 0) 0 := by
    rw [zoneListBytes, names, count, byteOf_byteAt, drop_take_one bs (by omega)]
    rfl
  refine (s.entryBytes_applyWrite (.pt ⟨entry, h⟩ (parsePt bs))).trans ?_
  rw [Write.storedBytes, content, ptBytes, list, drop_take_eq (k := 7) (by omega), drop_take_eq (k := 16) (by omega),
    drop_take_eq (k := 19) (by omega)]
  simp only [flagByte_getLsbD_zero, addrByte_addrAt, toBytes_wordAt, List.append_assoc]
  rfl

theorem readBack_gt {s : State} {entry : Nat} {bs : List Byte} {w : Write} (len : bs.length = 4)
    (accepted : s.checkWrite 6 entry bs = .accept w) :
    (s.applyWrite w).entryBytes 6 entry =
      if byteAt bs 2 = 0 then [0, 0, 0, 0] else [bs.getD 0 0 &&& 63] ++ (bs.drop 1).take 3 := by
  obtain ⟨h, cls, press, -, rfl⟩ := State.gt_of_checkGt accepted
  obtain ⟨-, code, -, empty, live⟩ := gt_of_accepted accepted
  have stored := s.entryBytes_applyWrite (.gt ⟨entry, h⟩ (gtEntryOf bs cls ⟨field bs 3 1, press⟩))
  generalize gtEntryOf bs cls ⟨field bs 3 1, press⟩ = e at *
  refine stored.trans ?_
  rw [Write.storedBytes, ← code]
  by_cases none : e.cls = .none
  · rw [empty none]
    rfl
  · obtain ⟨dest, byte, number, -⟩ := live none
    rw [if_neg fun zero => none (GateClass.code_eq_zero.mp zero), gtBytes, dest, byte, number, code,
      drop_take_eq (by omega)]
    simp only [addrByte_addrAt, byteOf_byteAt]
    rfl

theorem readBack_sys {s : State} {entry : Nat} {bs : List Byte} {w : Write} (len : bs.length = 20)
    (accepted : s.checkWrite 7 entry bs = .accept w) :
    (s.applyWrite w).entryBytes 7 entry = (bs.drop 0).take 10 ++ [byteOf (max 4 (min 16 (byteAt bs 10)))] ++
      (bs.drop 11).take 4 ++ [bs.getD 15 0 &&& 63] ++ (bs.drop 16).take 3 ++ [bs.getD 19 0 &&& 63] := by
  obtain ⟨-, rfl⟩ := State.sys_of_checkSys accepted
  obtain ⟨-, content, -, -, -, -, -, -, -, -, flag, -⟩ := sys_of_accepted len accepted
  have required : flagByte (decide (byteAt bs 5 = 1)) = bs.getD 5 0 := by
    rw [← byteOf_byteAt]
    have either : byteAt bs 5 = 0 ∨ byteAt bs 5 = 1 := by omega
    rcases either with zero | one
    · rw [zero]
      rfl
    · rw [one]
      rfl
  refine (s.entryBytes_applyWrite (.sys (parseSys bs).clamped)).trans ?_
  rw [Write.storedBytes, content, sysBytes, required, drop_take_eq (by omega), drop_take_eq (by omega),
    drop_take_eq (by omega)]
  simp only [addrByte_addrAt, byteOf_byteAt, toBytes_wordAt, List.append_assoc]
  rfl

theorem readBack_acc {s : State} {entry : Nat} {bs : List Byte} {w : Write} (len : bs.length = 2)
    (accepted : s.checkWrite 8 entry bs = .accept w) :
    (s.applyWrite w).entryBytes 8 entry = if byteAt bs 0 = 255 then [255, 255] else bs := by
  obtain ⟨h, e, -, rfl⟩ := State.acc_of_checkAcc accepted
  obtain ⟨-, empty, live, -⟩ := acc_of_accepted accepted
  refine (s.entryBytes_applyWrite (.acc ⟨entry, h⟩ e)).trans ?_
  rw [Write.storedBytes]
  cases e with
  | none => rw [if_pos (empty.mp rfl), accBytes]
  | some x =>
    obtain ⟨addr, level, -⟩ := live x rfl
    have byte : addrByte x.addr = bs.getD 0 0 := by
      refine BitVec.eq_of_toNat_eq ?_
      rw [addrByte, BitVec.toNat_setWidth, addr]
      exact Nat.mod_eq_of_lt (byteAt_lt bs 0)
    rw [if_neg fun none => by simpa using empty.mpr none, accBytes, byte, level, byteOf_byteAt]
    conv_rhs => rw [eq_map_getD bs, len]
    rfl

end Sys2Proof.Machine

/-! ## The entries of the read-only tables (R37, R53, R72, R93, R117, R131, R149, R177) -/

namespace Sys2Proof.Machine

open Sys2Proof

/-! ### Absent fields (R178) -/

theorem toBytesInt_absent : toBytesInt (-32768) = [128, 0] := by decide

theorem optByte_eq (o : Option Nat) : optByte o = (o.map byteOf).getD 255 := by cases o <;> rfl

theorem optByte_map_eq {α : Type} (o : Option α) (f : α → Nat) :
    optByte (o.map f) = (o.map (fun x => byteOf (f x))).getD 255 := by cases o <;> rfl

theorem optBytes2_eq (o : Option Nat) : optBytes2 o = (o.map (toBytes 2)).getD [255, 255] := by cases o <;> rfl

theorem optBytesInt_eq (o : Option Int) : optBytesInt o = (o.map toBytesInt).getD [128, 0] := by
  cases o with
  | none => exact toBytesInt_absent
  | some t => rfl

theorem toBytes_four_zero : toBytes 4 0 = [0, 0, 0, 0] := by decide

theorem optStamp_eq (o : Option Time) : optStamp o = (o.map (fun t => toBytes 4 t.toNat)).getD [0, 0, 0, 0] := by
  cases o with
  | none => exact toBytes_four_zero
  | some t => rfl

theorem remainingBytes_eq (now : Time) (o : Option Timer) :
    remainingBytes now o =
      (o.map (fun t => toBytes 4 (BitVec.ofNat 32 t.dur - (now - t.start)).toNat)).getD [0, 0, 0, 0] := by
  cases o with
  | none => exact toBytes_four_zero
  | some t => rfl

@[simp] theorem length_toBytes (size n : Nat) : (toBytes size n).length = size := by
  induction size with
  | zero => rfl
  | succ size ih => rw [toBytes, List.length_cons, ih]

@[simp] theorem length_toBytesInt (i : Int) : (toBytesInt i).length = 2 := length_toBytes 2 _

@[simp] theorem length_optBytes2 (o : Option Nat) : (optBytes2 o).length = 2 := by
  cases o with
  | none => rfl
  | some n => exact length_toBytes 2 n

@[simp] theorem length_optStamp (o : Option Time) : (optStamp o).length = 4 := by cases o <;> exact length_toBytes 4 _

@[simp] theorem length_remainingBytes (now : Time) (o : Option Timer) : (remainingBytes now o).length = 4 := by
  cases o <;> exact length_toBytes 4 _

/-! ### Targets (R37) -/

/-- The number of the entry that binds a target, absent where none does. -/
def BinderByte (s : State) (t : TargetNo) (k : Byte) : Prop :=
  (∃ i : Fin 64, s.tables.cht[i].target = some t ∧ k = byteOf i.val ∧
      ∀ j : Fin 64, j < i → s.tables.cht[j].target ≠ some t) ∨
    (k = 255 ∧ ∀ i : Fin 64, s.tables.cht[i].target ≠ some t)

theorem BinderByte.eq {s : State} {t : TargetNo} {k : Byte} (h : BinderByte s t k) :
    optByte ((s.tables.binder t).map (·.val)) = k := by
  rcases h with ⟨i, binds, rfl, first⟩ | ⟨rfl, none⟩
  · have found : s.tables.binder t = some i :=
      find?_finRange_eq_some.mpr ⟨by simpa using binds, fun j before => by simpa using first j before⟩
    rw [found]
    rfl
  · have absent : s.tables.binder t = .none := List.find?_eq_none.mpr fun i _ => by simpa using none i
    rw [absent]
    rfl

theorem targetEntry_bytes {s : State} {t : TargetNo} {k : Byte} (binder : BinderByte s t k) :
    (s.targets[t] = .unbound → s.entryBytes 10 t.val = [0, 255, 255, 255, 0, 0, 0, 0, 255, 255, 255, 255]) ∧
    (s.targets[t] = .unrefreshed →
      s.entryBytes 10 t.val = [1, k, 255, 255, 0, 0, 0, 0, 255, 255, 255, 255]) ∧
    (∀ v a m, s.targets[t] = .fresh v a m →
      s.entryBytes 10 t.val = [2, k] ++ toBytes 2 v ++ toBytes 4 a.toNat ++ toBytes 4 (s.now - a).toNat) ∧
    (∀ v a, s.targets[t] = .stale v a →
      s.entryBytes 10 t.val = [3, k] ++ toBytes 2 v ++ toBytes 4 a.toNat ++ toBytes 4 (s.now - a).toNat) := by
  have entry : s.entryBytes 10 t.val = s.targetEntry t := dif_pos t.isLt
  have byte := binder.eq
  rw [entry]
  refine ⟨fun now => ?_, fun now => ?_, fun v a m now => ?_, fun v a now => ?_⟩
  · simp only [State.targetEntry, now, optStamp, toBytes_four_zero]
    rfl
  · simp only [State.targetEntry, now, byte, optStamp, toBytes_four_zero]
    rfl
  · simp only [State.targetEntry, now, byte]
    rfl
  · simp only [State.targetEntry, now, byte]
    rfl

/-! ### Zones (R53, R72) -/

theorem zoneEntry_bytes (s : State) (z : ZoneNo) :
    ∃ place : List Byte, place.length = 2 ∧
      (∀ p k, s.pressOf z = some p → s.positionOf z = some k → place = [byteOf p.val, byteOf k]) ∧
      (s.pressOf z = none → place = [255, 255]) ∧
      s.entryBytes 11 z.val = [byteOf s.zones[z].state.code] ++ place ++ toBytes 2 s.zones[z].integ ++
        toBytes 2 s.zones[z].lastDuty ++ toBytes 2 s.zones[z].preset ++ [byteOf s.zones[z].staleCount,
          packFlags [s.zones[z].sensorFault, s.zones[z].staleSeen, s.zones[z].syncLost]] ++
        (s.zones[z].temp.map toBytesInt).getD [128, 0] ++ [byteOf s.zones[z].range.code] ++
        (s.zones[z].cycMin.map toBytesInt).getD [128, 0] ++ (s.zones[z].cycMax.map toBytesInt).getD [128, 0] ++
        [packFlags [s.zones[z].underSeen, s.zones[z].overSeen]] ++ toBytes 3 s.zones[z].cure ++
        [flagByte s.zones[z].cureHot] := by
  have entry : s.entryBytes 11 z.val = s.zoneEntry z := dif_pos z.isLt
  refine ⟨[optByte ((s.pressOf z).map (·.val)), optByte (s.positionOf z)], rfl, fun p k press place => ?_,
    fun none => ?_, ?_⟩
  · rw [press, place]
    rfl
  · rw [State.positionOf, none]
    rfl
  · simp only [entry, State.zoneEntry, optBytesInt_eq, List.append_assoc, List.cons_append, List.nil_append]
    rfl

/-! ### The weigh station and the charges (R93) -/

theorem weighEntry_bytes (s : State) {head : List Byte}
    (shown : head = [byteOf s.weigh.state.code, (s.weigh.recipe.map (fun x => byteOf x.val)).getD 255] ++
      (s.weigh.last.map (toBytes 2)).getD [255, 255] ++ [byteOf s.weigh.window.length] ++
      if s.weigh.window = [] then [255, 255] else toBytes 2 (windowSpread s.weigh.window)) :
    s.entryBytes 12 0 = head ++ s.weigh.state.judgement := by
  show s.weighEntry = _
  rw [shown, State.weighEntry, optByte_map_eq, optBytes2_eq, optBytes2_eq]
  simp only [List.isEmpty_iff]
  rfl

theorem WeighState.judgement_eq_absent {w : WeighState} (h : ∀ v x d, w ≠ .stable v x d) :
    w.judgement = [255, 255, 255, 128, 0] := by
  cases w with
  | stable v x d => exact absurd rfl (h v x d)
  | off | noSignal | empty | loading => simp [WeighState.judgement, optBytes2, optBytesInt, toBytesInt_absent]

theorem chargeEntry_bytes (s : State) (k : Nat) :
    (∀ e, s.charges[k]? = some e → s.entryBytes 13 k = toBytes 2 e.number.toNat ++ [byteOf e.recipe.val] ++
      toBytes 2 e.weight ++ toBytesInt e.dev ++ toBytes 4 e.accepted.toNat ++ toBytes 4 e.expiry.toNat ++
      [byteOf e.slot.val] ++ toBytes 4 (e.expiry - s.now).toNat) ∧
    (s.charges.length ≤ k → s.entryBytes 13 k = List.replicate 20 255) := by
  have entry : s.entryBytes 13 k = s.chargeEntryBytes k := rfl
  refine ⟨fun e held => ?_, fun past => ?_⟩
  · rw [entry, State.chargeEntryBytes, held]
  · rw [entry, State.chargeEntryBytes, List.getElem?_eq_none past]

/-! ### Presses (R117, R131) -/

/-- The fields of a press before its cycle record. -/
def pressHead (s : State) (p : PressNo) : List Byte :=
  let q := s.presses[p]
  [byteOf q.state.code, optByte (q.recipe.map (·.val)), optByte (q.slot.map (·.val)),
    packFlags [q.dwellDone, q.override, q.hold.isSome, s.guard[p].accepted.isOpen,
      s.tables.pt[p].guardUsed, s.guardOpen p]] ++
    optStamp q.closed ++ remainingBytes s.now q.dwellT ++ remainingBytes s.now q.holdT ++
    remainingBytes s.now (q.closeT.or (q.openT.or q.ejectT))

/-- The fields of a press behind its cycle record. -/
def pressTail (s : State) (p : PressNo) : List Byte :=
  let q := s.presses[p]
  [byteOf q.stroke] ++ optStamp q.ejectStart ++ [optByte (s.currentSegment p), byteOf q.debounce] ++
    toBytes 2 q.peak ++ [optByte q.peakSeg, optByte q.peakStroke, optByte (q.stuckCause.map (·.code)),
      byteOf q.halt.code]

theorem entryBytes_press (s : State) (p : PressNo) :
    s.entryBytes 14 p.val = pressHead s p ++ (s.cycleBytes p ++ pressTail s p) := by
  have entry : s.entryBytes 14 p.val = s.pressEntry p := dif_pos p.isLt
  simp only [entry, State.pressEntry, pressHead, pressTail, List.append_assoc]

theorem length_pressHead (s : State) (p : PressNo) : (pressHead s p).length = 20 := by simp [pressHead]

theorem length_cycleBytes (s : State) (p : PressNo) : (s.cycleBytes p).length = 24 := by
  unfold State.cycleBytes
  split
  · simp
  · decide

theorem pressEntry_parts (s : State) (p : PressNo) :
    (s.entryBytes 14 p.val).take 20 = pressHead s p ∧
    ((s.entryBytes 14 p.val).drop 20).take 24 = s.cycleBytes p ∧
    (s.entryBytes 14 p.val).drop 44 = pressTail s p := by
  have front := length_pressHead s p
  have middle := length_cycleBytes s p
  rw [entryBytes_press]
  refine ⟨List.take_left' front, ?_, ?_⟩
  · rw [List.drop_left' front, List.take_left' middle]
  · rw [← List.append_assoc, List.drop_left' (by simp [front, middle])]

theorem GuardLevel.isOpen_eq (g : GuardLevel) : g.isOpen = (g == .open) := by cases g <;> rfl

/-- The timer shown is the first of the three that runs. -/
theorem first_running (a b c : Option Timer) :
    a.or (b.or c) = if a.isSome then a else if b.isSome then b else c := by
  cases a with
  | some t => rfl
  | none => cases b <;> rfl

theorem State.currentSegment_eq (s : State) (p : PressNo) :
    s.currentSegment p = if s.presses[p].state = .ejecting then
      s.presses[p].recipe.bind (fun r => s.presses[p].ejectStart.map (fun t0 =>
        min 7 ((s.now - t0).toNat / s.tables.rt[r].segLen))) else none := by
  unfold State.currentSegment State.recipeOf
  by_cases ejecting : s.presses[p].state = .ejecting
  · rw [if_pos ejecting, beq_iff_eq.mpr ejecting]
    cases s.presses[p].recipe with
    | none => rfl
    | some r => cases s.presses[p].ejectStart <;> rfl
  · rw [if_neg ejecting, beq_eq_false_iff_ne.mpr ejecting]

theorem cycleBytes_of_cycle {s : State} {p : PressNo} {c : CycleRecord} {r : RecipeNo}
    (cycle : s.presses[p].cycle = some c) (recipe : s.presses[p].recipe = some r) :
    s.cycleBytes p = [0, byteOf p.val, byteOf r.val, byteOf c.zoneCount] ++
      toBytes 4 ((c.serial.map (·.toNat)).getD 0) ++ toBytes 2 c.chargeNo.toNat ++ toBytes 2 c.weight ++
      toBytesInt c.dev ++ toBytes 2 c.age ++ (c.cureTime.map (toBytes 2)).getD [255, 255] ++ [255, 255] ++
      toBytes 2 s.presses[p].peak ++ [byteOf (16 * c.retries + 15), packFlags [c.serial.isSome, false, false, false,
        c.guardOpened, c.closeTimeout, c.openTimeout, c.lineLoss]] := by
  have serial : (c.serial.getD 0).toNat = (c.serial.map (·.toNat)).getD 0 := by cases c.serial <;> rfl
  rw [State.cycleBytes, cycle, recipe]
  dsimp only
  rw [serial, Nat.mul_comm c.retries 16, optBytes2_eq c.cureTime]
  rfl

/-! ### Slots (R149) -/

theorem storeEntry_bytes (s : State) (i : SlotNo) :
    (s.store.slots[i] = .free → s.entryBytes 15 i.val = [0, 0] ++ List.replicate 11 255 ++ [0]) ∧
    (∀ n, s.store.slots[i] = .reserved (.charge n) →
      s.entryBytes 15 i.val = [1, 1] ++ toBytes 2 n.toNat ++ List.replicate 9 255 ++ [0]) ∧
    (∀ p, s.store.slots[i] = .reserved (.press p) →
      s.entryBytes 15 i.val = [1, 2] ++ toBytes 2 p.val ++ List.replicate 9 255 ++ [0]) ∧
    (∀ r d, s.store.slots[i] = .stored r d → s.entryBytes 15 i.val =
      [2, 0, 255, 255] ++ toBytes 4 r.number.toNat ++ [byteOf r.kind.code,
        (r.press.map (fun p => byteOf p.val)).getD 255, byteOf r.disposition.code] ++ toBytes 2 r.chargeNo.toNat ++
        [packFlags [d.delivered0, d.owed1, d.delivered1, d.released]]) := by
  have entry : s.entryBytes 15 i.val = storeEntry s.store.slots[i] := dif_pos i.isLt
  rw [entry]
  refine ⟨fun now => ?_, fun n now => ?_, fun p now => ?_, fun r d now => ?_⟩
  · rw [now]
    rfl
  · rw [now]
    rfl
  · rw [now]
    rfl
  · rw [now, storeEntry, optByte_map_eq]
    rfl

end Sys2Proof.Machine

/-! ## Requests of a served requester (R150) and table reads (R154, R156, R159) -/

namespace Sys2Proof.Machine

open Sys2Proof

/-! ### A request that is carried out -/

theorem State.requester_of_serves {s : State} {src : Addr} {i : Fin 4} {write : Bool}
    (served : s.serves src i write = true) :
    s.rstn = true ∧ s.agent.responses.length < 4 ∧ s.requester src = some i ∧
      (write = true → s.levelOf i = .write) := by
  simp only [State.serves, Bool.and_eq_true, Bool.or_eq_true, Bool.not_eq_true', decide_eq_true_eq,
    beq_iff_eq] at served
  obtain ⟨⟨⟨rstn, room⟩, requester⟩, level⟩ := served
  exact ⟨rstn, room, requester, fun h => level.resolve_left (by simp [h])⟩

theorem Req.toNat_code (r : Req) : (byteOf r.code).toNat = r.code ∧ knownOperation r.code = true := by
  cases r <;> exact ⟨rfl, rfl⟩

/-- A request of a requester whose level allows it is carried out and answered (R150). -/
theorem management_of_serves {s : State} {src : Addr} {i : Fin 4} {write : Bool} {r : Req} (tag : Byte)
    (served : s.serves src i write = true) (allowed : writingOperation r.code = true → write = true)
    (size : r.argsOk = true) :
    management src tag r s = .next (finish src tag (byteOf r.code) (s.perform i src tag r)).kick := by
  obtain ⟨rstn, room, requester, level⟩ := State.requester_of_serves served
  obtain ⟨code, known⟩ := r.toNat_code
  have taken : s.request src tag r = finish src tag (byteOf r.code) (s.perform i src tag r) := by
    have may : ¬(writingOperation r.code && s.levelOf i == .read) = true := by
      rw [Bool.and_eq_true, not_and]
      intro writes
      rw [level (allowed writes)]
      decide
    rw [State.request, if_neg (by omega), State.decideReq, requester]
    simp only [code, known, Bool.not_true, Bool.false_eq_true, if_false]
    rw [if_neg may, State.carryOut]
    simp only [size, if_true]
  rw [management, event, if_pos rstn, taken]

theorem State.respond_ok (s : State) (dst : Addr) (tag op : Byte) (data : List Byte) :
    s.respond dst tag op .ok data = s.answered (okFrame s.own dst tag op data) := rfl

theorem State.respond_badArg (s : State) (dst : Addr) (tag op : Byte) :
    s.respond dst tag op .badArg [] = s.answered (errFrame s.own dst tag op 3 []) := rfl

theorem State.respond_busy (s : State) (dst : Addr) (tag op : Byte) :
    s.respond dst tag op .busy [] = s.answered (errFrame s.own dst tag op 2 []) := rfl

/-! ### The writes a read waits for (R156) -/

theorem readWaitsOn_iff {x : Byte} {w : Write} :
    readWaitsOn x.toNat w = true ↔
      (w.table = 0 ∧ (x = 0 ∨ x = 10)) ∨ (w.table = 1 ∧ (x = 1 ∨ x = 11)) ∨ (w.table = 2 ∧ x = 2) ∨
        (w.table = 3 ∧ (x = 3 ∨ x = 11)) := by
  simp only [BitVec.toNat_eq, BitVec.reduceToNat]
  unfold readWaitsOn
  split
  case h_7 =>
    simp only [Bool.false_eq_true]
    tauto
  all_goals
    simp only [beq_iff_eq, Bool.or_eq_true]
    omega

theorem waitCount_eq_zero {table : Nat} {ws : List Write} (none : ∀ w ∈ ws, readWaitsOn table w = false) :
    waitCount table ws = 0 := by
  induction ws with
  | nil => rfl
  | cons w ws ih =>
    have rest := ih fun v mem => none v (List.mem_cons_of_mem w mem)
    simp [waitCount, rest, none w List.mem_cons_self]

/-- A read waits up to the last write it waits for. -/
theorem waitCount_last {table : Nat} {before after : List Write} {w : Write} (waits : readWaitsOn table w = true)
    (last : ∀ v ∈ after, readWaitsOn table v = false) :
    waitCount table (before ++ w :: after) = before.length + 1 := by
  induction before with
  | nil => simp [waitCount, waitCount_eq_zero last, waits]
  | cons v before ih => simp [waitCount, ih]

/-! ### Reads of entries (R154, R156) -/

theorem tableEntries_eq_zero {table : Nat} (past : 15 < table) : tableEntries table = 0 := by
  obtain ⟨n, rfl⟩ := Nat.exists_eq_add_of_le' past
  rfl

section
variable {s : State} {i : Fin 4} {tag op : Byte} {table first count : Nat}

theorem readEntries_short (wait : waitCount table s.agent.posted = 0) (fits : count ≤ 59 / readSize table) :
    s.readEntries i tag op table first count = s.okWith (s.entriesBytes table first count) := by
  have fits : count ≤ entriesPerPart table := fits
  simp [State.readEntries, wait, fits]

theorem readEntries_busy (long : waitCount table s.agent.posted ≠ 0 ∨ 59 / readSize table < count)
    (busy : s.agent.contexts[i] ≠ none) : s.readEntries i tag op table first count = s.refused .busy := by
  have long : ¬(waitCount table s.agent.posted = 0 ∧ count ≤ entriesPerPart table) := by
    unfold entriesPerPart
    omega
  simp only [State.readEntries, Bool.and_eq_true, beq_iff_eq, decide_eq_true_eq]
  rw [if_neg long, if_pos (Option.isSome_iff_ne_none.mpr busy)]

theorem readEntries_long (long : waitCount table s.agent.posted ≠ 0 ∨ 59 / readSize table < count)
    (closed : s.agent.contexts[i] = none) :
    s.readEntries i tag op table first count =
      (s.openRead i ⟨tag, op, .table table first count, 0, waitCount table s.agent.posted⟩, .long) := by
  have long : ¬(waitCount table s.agent.posted = 0 ∧ count ≤ entriesPerPart table) := by
    unfold entriesPerPart
    omega
  simp only [State.readEntries, Bool.and_eq_true, beq_iff_eq, decide_eq_true_eq]
  rw [if_neg long, if_neg (by simp [closed])]

end

theorem doTableRead_refused {s : State} {i : Fin 4} {tag : Byte} {table first count : Nat}
    (bad : 15 < table ∨ count = 0 ∨ tableEntries table < first + count) :
    s.doTableRead i tag table first count = s.refused .badArg := by
  refine if_pos ?_
  simp only [Bool.or_eq_true, beq_iff_eq, decide_eq_true_eq, or_assoc]
  exact bad.imp_left tableEntries_eq_zero

theorem doTableRead_taken {s : State} {i : Fin 4} {tag : Byte} {table first count : Nat}
    (some : count ≠ 0) (inside : first + count ≤ tableEntries table) :
    s.doTableRead i tag table first count = s.readEntries i tag 5 table first count := by
  refine if_neg ?_
  simp only [Bool.or_eq_true, beq_iff_eq, decide_eq_true_eq]
  omega

theorem doTableReadMark_refused {s : State} {i : Fin 4} {tag : Byte} {table entry : Nat}
    (bad : 8 < table ∨ tableEntries table ≤ entry) :
    s.doTableReadMark i tag table entry = s.refused .badArg := by
  refine if_pos ?_
  simpa [writableTable] using bad

theorem doTableReadMark_taken {s : State} {i : Fin 4} {tag : Byte} {table entry : Nat}
    (writable : table ≤ 8) (inside : entry < tableEntries table) :
    s.doTableReadMark i tag table entry =
      let r := s.readEntries i tag 6 table entry 1
      if r.2.accepted then (r.1.setMark i { table := table, entry := entry }, r.2) else r := by
  refine if_neg ?_
  simpa [writableTable, writable] using inside

theorem exec_tableRead {s : State} {src : Addr} {i : Fin 4} (tag x a b : Byte)
    (served : s.serves src i false = true) :
    exec (.tableRead src tag x a b) s =
      .next (finish src tag 5 (s.doTableRead i tag x.toNat a.toNat b.toNat)).kick :=
  management_of_serves (r := .tableRead x.toNat a.toNat b.toNat) tag served (fun writes => writes) rfl

theorem exec_tableReadMark {s : State} {src : Addr} {i : Fin 4} (tag x a : Byte)
    (served : s.serves src i false = true) :
    exec (.tableReadMark src tag x a) s = .next (finish src tag 6 (s.doTableReadMark i tag x.toNat a.toNat)).kick :=
  management_of_serves (r := .tableReadMark x.toNat a.toNat) tag served (fun writes => writes) rfl

/-- Settles O45: writes read back by table, the read-only entries field by field, and the three answers to a read. -/
theorem tableReads : Obligations.TableReads := by
  refine ⟨fun s table entry bs w size accepted => ?_, fun s => ⟨fun v result => ?_, fun none => ?_,
    fun t k binder => targetEntry_bytes binder, zoneEntry_bytes s, ⟨fun v x d state => ?_, fun unstable => ?_⟩,
    chargeEntry_bytes s, fun p => ?_, storeEntry_bytes s⟩, fun s src tag x a b i served => ?_⟩
  · have len {n : Nat} (written : writeSize table = some n) : bs.length = n :=
      Option.some.inj (size.symm.trans written)
    refine ⟨?_, ?_, ?_, ?_, ?_, ?_, ?_, ?_, ?_⟩ <;> rintro rfl
    · exact readBack_cht (len rfl) accepted
    · exact readBack_lin (len rfl) accepted
    · exact readBack_crt (len rfl) accepted
    · exact readBack_zt (len rfl) accepted
    · exact readBack_rt (len rfl) accepted
    · exact readBack_pt (len rfl) accepted
    · exact readBack_gt (len rfl) accepted
    · exact readBack_sys (len rfl) accepted
    · exact readBack_acc (len rfl) accepted
  · show s.censusEntry = _
    rw [State.censusEntry, result]
  · show s.censusEntry = _
    rw [State.censusEntry, none]
  · refine (weighEntry_bytes s rfl).trans ?_
    have judged : s.weigh.state.judgement = [byteOf v.code] ++ toBytes 2 x ++ toBytesInt d := by
      rw [state]
      rfl
    simp only [judged, List.append_assoc]
  · refine (weighEntry_bytes s rfl).trans ?_
    rw [WeighState.judgement_eq_absent unstable]
  · obtain ⟨front, middle, back⟩ := pressEntry_parts s p
    refine ⟨front.trans ?_, fun c r cycle recipe => middle.trans (cycleBytes_of_cycle cycle recipe), back.trans ?_⟩
    · simp only [pressHead, optByte_eq, optStamp_eq, remainingBytes_eq, first_running, State.guardOpen,
        GuardLevel.isOpen_eq]
    · simp only [pressTail, optByte_eq, optStamp_eq, State.currentSegment_eq]
  · have count (some : b ≠ 0) : b.toNat ≠ 0 := fun zero => some (BitVec.eq_of_toNat_eq zero)
    refine ⟨fun before after w queue waits last => ?_, fun none => ?_, fun bad => ?_, fun known some inside =>
      ⟨fun ready fits => ?_, fun long busy => ?_, fun long closed => ?_⟩, fun bad => ?_, fun writable inside =>
      ⟨fun ready fits => ?_, fun long busy => ?_, fun long closed => ?_⟩⟩
    · show waitCount x.toNat s.agent.posted = _
      rw [queue]
      exact waitCount_last (readWaitsOn_iff.mpr waits) fun v mem =>
        Bool.eq_false_iff.mpr fun later => last v mem (readWaitsOn_iff.mp later)
    · exact waitCount_eq_zero fun w mem => Bool.eq_false_iff.mpr fun waits => none w mem (readWaitsOn_iff.mp waits)
    · rw [exec_tableRead tag x a b served, doTableRead_refused (bad.imp_right (.imp_left ?_))]
      · rfl
      · rintro rfl
        rfl
    · rw [exec_tableRead tag x a b served, doTableRead_taken (count some) inside, readEntries_short ready fits]
      rfl
    · rw [exec_tableRead tag x a b served, doTableRead_taken (count some) inside, readEntries_busy long busy]
      rfl
    · rw [exec_tableRead tag x a b served, doTableRead_taken (count some) inside, readEntries_long long closed]
      rfl
    · rw [exec_tableReadMark tag x a served, doTableReadMark_refused bad]
      rfl
    · rw [exec_tableReadMark tag x a served, doTableReadMark_taken writable inside, readEntries_short ready fits]
      rfl
    · rw [exec_tableReadMark tag x a served, doTableReadMark_taken writable inside, readEntries_busy long busy]
      rfl
    · rw [exec_tableReadMark tag x a served, doTableReadMark_taken writable inside, readEntries_long long closed]
      rfl

end Sys2Proof.Machine

/-! ## Laws of the conversion (R39 to R43) -/

namespace Sys2Proof.Machine

open Sys2Proof

/-! ### The quotient rounded to nearest (R42 step 3) -/

/-- R42: the rounded quotient is a nearest integer, and of two nearest ones that farther from zero. -/
theorem roundHalfAway_nearest (n : Int) {d : Nat} (pos : 0 < d) :
    2 * |d * roundHalfAway n d - n| ≤ d ∧
      (2 * |d * roundHalfAway n d - n| = d → |n| ≤ |d * roundHalfAway n d|) := by
  have half (m : Int) : 2 * (d * Int.fdiv (2 * m + d) (2 * d)) ≤ 2 * m + d ∧
      2 * m - d < 2 * (d * Int.fdiv (2 * m + d) (2 * d)) := by
    rw [Int.fdiv_eq_ediv_of_nonneg _ (by positivity)]
    have low := Int.mul_ediv_self_le (x := 2 * m + d) (k := 2 * (d : Int)) (by positivity)
    have high := Int.lt_mul_ediv_self_add (x := 2 * m + d) (k := 2 * (d : Int)) (by positivity)
    rw [mul_assoc] at low high
    constructor <;> omega
  unfold roundHalfAway
  split
  next nonneg =>
    obtain ⟨low, high⟩ := half n
    simp only [Int.abs_eq_natAbs]
    constructor <;> omega
  next neg =>
    obtain ⟨low, high⟩ := half (-n)
    rw [mul_neg, neg_mul_comm]
    simp only [Int.abs_eq_natAbs]
    constructor <;> omega

theorem le_roundHalfAway {n k : Int} {d : Nat} (pos : 0 < d) (le : d * k ≤ n) : k ≤ roundHalfAway n d := by
  by_contra! lt
  have near := (roundHalfAway_nearest n pos).1
  have scaled := mul_le_mul_of_nonneg_left (Int.add_one_le_of_lt lt) (Nat.cast_nonneg d)
  rw [mul_add, mul_one] at scaled
  rw [Int.abs_eq_natAbs] at near
  omega

theorem roundHalfAway_le {n k : Int} {d : Nat} (pos : 0 < d) (le : n ≤ d * k) : roundHalfAway n d ≤ k := by
  by_contra! lt
  have near := (roundHalfAway_nearest n pos).1
  have scaled := mul_le_mul_of_nonneg_left (Int.add_one_le_of_lt lt) (Nat.cast_nonneg d)
  rw [mul_add, mul_one] at scaled
  rw [Int.abs_eq_natAbs] at near
  omega

theorem roundHalfAway_mul {d : Nat} (pos : 0 < d) (k : Int) : roundHalfAway (d * k) d = k :=
  le_antisymm (roundHalfAway_le pos le_rfl) (le_roundHalfAway pos le_rfl)

/-- The same against the exact quotient. -/
theorem roundHalfAway_rational (n : Int) {d : Nat} (pos : 0 < d) :
    |(roundHalfAway n d : ℚ) - n / d| ≤ 1 / 2 ∧
      (|(roundHalfAway n d : ℚ) - n / d| = 1 / 2 → |(n : ℚ) / d| ≤ |(roundHalfAway n d : ℚ)|) := by
  obtain ⟨near, tie⟩ := roundHalfAway_nearest n pos
  have pos : (0 : ℚ) < d := by exact_mod_cast pos
  have error : |(roundHalfAway n d : ℚ) - n / d| = (|d * roundHalfAway n d - n| : Int) / d := by
    rw [← mul_div_cancel_left₀ (roundHalfAway n d : ℚ) pos.ne', ← sub_div, abs_div, abs_of_pos pos]
    push_cast
    rfl
  rw [error, div_le_iff₀ pos, div_eq_iff pos.ne', abs_div, abs_of_pos pos, div_le_iff₀ pos]
  refine ⟨?_, fun half => ?_⟩
  · have near : 2 * ((|d * roundHalfAway n d - n| : Int) : ℚ) ≤ d := by exact_mod_cast near
    linarith only [near]
  · have farther : ((|n| : Int) : ℚ) ≤ (|d * roundHalfAway n d| : Int) := by
      refine Int.cast_le.mpr (tie ?_)
      have equal : 2 * ((|d * roundHalfAway n d - n| : Int) : ℚ) = d := by linarith only [half]
      exact_mod_cast equal
    rwa [abs_mul, Nat.abs_cast, Int.cast_mul, mul_comm, Int.cast_natCast, Int.cast_abs, Int.cast_abs] at farther

/-! ### Interpolation within a segment (R42) -/

variable {a b : Breakpoint} {r : Nat}

theorem interpolate_sub (a b : Breakpoint) (r : Nat) :
    interpolate a b r - a.temp = roundHalfAway (((r : Int) - a.raw) * (b.temp - a.temp)) (b.raw - a.raw) :=
  add_sub_cancel_left _ _

theorem interpolate_left (ascending : a.raw < b.raw) : interpolate a b a.raw = a.temp := by
  have zero := roundHalfAway_mul (Nat.sub_pos_of_lt ascending) 0
  rw [mul_zero] at zero
  rw [interpolate, sub_self, zero_mul, zero, add_zero]

theorem interpolate_right (ascending : a.raw < b.raw) : interpolate a b b.raw = b.temp := by
  rw [interpolate, ← Nat.cast_sub ascending.le, roundHalfAway_mul (Nat.sub_pos_of_lt ascending), add_sub_cancel]

theorem interpolate_mem (ascending : a.raw < b.raw) (low : a.raw ≤ r) (high : r ≤ b.raw) :
    min a.temp b.temp ≤ interpolate a b r ∧ interpolate a b r ≤ max a.temp b.temp := by
  have pos := Nat.sub_pos_of_lt ascending
  have left : (0 : Int) ≤ (r : Int) - a.raw := by omega
  have right : (r : Int) - a.raw ≤ (b.raw - a.raw : Nat) := by omega
  rcases le_total a.temp b.temp with up | down
  · have rise : 0 ≤ b.temp - a.temp := by omega
    have := le_roundHalfAway (k := 0) pos (by simpa using mul_nonneg left rise)
    have := roundHalfAway_le pos (mul_le_mul_of_nonneg_right right rise)
    rw [interpolate]
    omega
  · have fall : b.temp - a.temp ≤ 0 := by omega
    have := roundHalfAway_le (k := 0) pos (by simpa using mul_nonpos_of_nonneg_of_nonpos left fall)
    have := le_roundHalfAway pos (mul_le_mul_of_nonpos_right right fall)
    rw [interpolate]
    omega

/-! ### The segments of a valid curve (Table 27) -/

theorem curveValid_iff_pairwise (c : List Breakpoint) :
    curveValid c = true ↔ c.Pairwise (fun a b => a.raw < b.raw) := by
  have trans : IsTrans Breakpoint (fun a b => a.raw < b.raw) := ⟨fun _ _ _ => Nat.lt_trans⟩
  rw [curveValid_iff, List.isChain_iff_pairwise]

theorem segmentFrom_skip {x : Breakpoint} {before after : List Breakpoint}
    (ascending : (a :: (before ++ x :: after)).Pairwise (fun a b => a.raw < b.raw)) (above : x.raw < r) :
    segmentFrom r a (before ++ x :: after) = segmentFrom r x after := by
  induction before generalizing a with
  | nil => exact if_neg (Nat.not_le.mpr above)
  | cons b before ih =>
    have later := ascending.of_cons
    have lower : b.raw < x.raw := List.rel_of_pairwise_cons later (by simp)
    exact (if_neg (Nat.not_le.mpr (lower.trans above))).trans (ih later)

theorem segmentFrom_at {x : Breakpoint} {before after : List Breakpoint}
    (ascending : (a :: (before ++ x :: after)).Pairwise (fun a b => a.raw < b.raw)) :
    segmentFrom x.raw a (before ++ x :: after) = (x.temp, .none) := by
  induction before generalizing a with
  | nil =>
    have lower : a.raw < x.raw := List.rel_of_pairwise_cons ascending (by simp)
    exact (if_pos le_rfl).trans (by rw [interpolate_right lower])
  | cons b before ih =>
    have later := ascending.of_cons
    have lower : b.raw < x.raw := List.rel_of_pairwise_cons later (by simp)
    exact (if_neg (Nat.not_le.mpr lower)).trans (ih later)

theorem segmentFrom_mem {rest : List Breakpoint} {lo hi : Int}
    (ascending : (a :: rest).Pairwise (fun a b => a.raw < b.raw))
    (bounds : ∀ b ∈ a :: rest, lo ≤ b.temp ∧ b.temp ≤ hi) (above : a.raw ≤ r) :
    lo ≤ (segmentFrom r a rest).1 ∧ (segmentFrom r a rest).1 ≤ hi := by
  induction rest generalizing a with
  | nil => exact bounds a (by simp)
  | cons b rest ih =>
    have lower : a.raw < b.raw := List.rel_of_pairwise_cons ascending (by simp)
    rw [segmentFrom]
    split
    next inside =>
      have between := interpolate_mem lower above inside
      have left := bounds a (by simp)
      have right := bounds b (by simp)
      exact ⟨(le_min left.1 right.1).trans between.1, between.2.trans (max_le left.2 right.2)⟩
    next beyond => exact ih ascending.of_cons (fun x mem => bounds x (.tail a mem)) (by omega)

theorem curvePoint_skip {x : Breakpoint} {before after : List Breakpoint}
    (ascending : (before ++ x :: after).Pairwise (fun a b => a.raw < b.raw)) (above : x.raw < r) :
    curvePoint (before ++ x :: after) r = segmentFrom r x after := by
  cases before with
  | nil => exact if_neg (Nat.not_lt.mpr above.le)
  | cons a before =>
    have lower : a.raw < x.raw := List.rel_of_pairwise_cons ascending (by simp)
    exact (if_neg (by omega)).trans (segmentFrom_skip ascending above)

theorem curvePoint_at {x : Breakpoint} {before after : List Breakpoint}
    (ascending : (before ++ x :: after).Pairwise (fun a b => a.raw < b.raw)) :
    curvePoint (before ++ x :: after) x.raw = (x.temp, .none) := by
  cases before with
  | nil =>
    refine (if_neg (lt_irrefl _)).trans ?_
    cases after with
    | nil => exact congrArg _ (if_neg (lt_irrefl _))
    | cons y after =>
      have lower : x.raw < y.raw := List.rel_of_pairwise_cons ascending (by simp)
      exact (if_pos lower.le).trans (by rw [interpolate_left lower])
  | cons a before =>
    have lower : a.raw < x.raw := List.rel_of_pairwise_cons ascending (by simp)
    exact (if_neg (by omega)).trans (segmentFrom_at ascending)

theorem curvePoint_over {front : List Breakpoint}
    (ascending : (front ++ [a]).Pairwise (fun a b => a.raw < b.raw)) (above : a.raw < r) :
    curvePoint (front ++ [a]) r = (a.temp, .over) :=
  (curvePoint_skip ascending above).trans (congrArg _ (if_pos above))

theorem curvePoint_between {before after : List Breakpoint}
    (ascending : (before ++ a :: b :: after).Pairwise (fun a b => a.raw < b.raw)) (low : a.raw ≤ r)
    (high : r ≤ b.raw) : curvePoint (before ++ a :: b :: after) r = (interpolate a b r, .none) := by
  obtain rfl | above := low.eq_or_lt
  · have segment : a.raw < b.raw := List.rel_of_pairwise_cons (List.pairwise_append.mp ascending).2.1 (by simp)
    rw [curvePoint_at ascending, interpolate_left segment]
  · exact (curvePoint_skip ascending above).trans (if_pos high)

theorem curvePoint_mem {c : List Breakpoint} {lo hi : Int} (zero : lo ≤ 0 ∧ 0 ≤ hi)
    (ascending : c.Pairwise (fun a b => a.raw < b.raw)) (bounds : ∀ b ∈ c, lo ≤ b.temp ∧ b.temp ≤ hi) :
    lo ≤ (curvePoint c r).1 ∧ (curvePoint c r).1 ≤ hi := by
  cases c with
  | nil => exact zero
  | cons a rest =>
    rw [curvePoint]
    split
    next below => exact bounds a (by simp)
    next above => exact segmentFrom_mem ascending bounds (Nat.not_lt.mp above)

/-! ### Offset, clamp and flag (R41, R43) -/

theorem withOffset_fst (t : Int) (f : RangeFlag) (o : Int) : (withOffset t f o).1 = max (-400) (min 4000 (t + o)) := by
  unfold withOffset
  split_ifs <;> simp only <;> omega

theorem withOffset_snd (t : Int) (f : RangeFlag) (o : Int) :
    (withOffset t f o).2 = if t + o < -400 then .under else if 4000 < t + o then .over else f := by
  rw [withOffset, apply_ite Prod.snd, apply_ite Prod.snd]

theorem convert_invalid {c : List Breakpoint} (o : Int) (r : Nat)
    (invalid : ¬c.Pairwise (fun a b => a.raw < b.raw)) : convert c o r = (none, .none) :=
  if_neg (mt (curveValid_iff_pairwise c).mp invalid)

theorem convert_valid {c : List Breakpoint} (o : Int) (r : Nat) (valid : c.Pairwise (fun a b => a.raw < b.raw)) :
    convert c o r = (some (withOffset (curvePoint c r).1 (curvePoint c r).2 o).1,
      (withOffset (curvePoint c r).1 (curvePoint c r).2 o).2) :=
  if_pos ((curveValid_iff_pairwise c).mpr valid)

/-- R41: the zone record holds the conversion whether or not the cycle fields change with it. -/
theorem State.zoneReading_record (s : State) (z : ZoneNo) (r : Nat) :
    ((s.zoneReading z r).zones[z].temp, (s.zoneReading z r).zones[z].range) = s.convertFor z r := by
  cases temp : (s.convertFor z r).1 with
  | none => rw [State.zoneReading_plain (.inl temp), State.updZone_self]
  | some t =>
    by_cases curing : s.zoneCuring z = true
    · rw [State.zoneReading_curing temp curing, State.updZone_self, ← temp]
    · rw [State.zoneReading_plain (.inr curing), State.updZone_self]

/-- Settles O33: what the interpolation is comes from `roundHalfAway_nearest`, where a count lies on a curve from
`curvePoint_at` and `curvePoint_skip`. -/
theorem temperatureConversion : Obligations.TemperatureConversion := by
  refine ⟨fun s z r => ?_, fun c r ascending bounds => curvePoint_mem (by omega) ascending bounds,
    fun a b r ascending low high => ?_, fun c o r invalid => convert_invalid o r invalid,
    fun c o r ascending => ⟨?_, ?_, ?_, ?_, ?_⟩⟩
  · rw [State.ownerReading_zoneTc]
    exact s.zoneReading_record z r
  · have rounded := roundHalfAway_rational (((r : Int) - a.raw) * (b.temp - a.temp)) (Nat.sub_pos_of_lt ascending)
    rw [← interpolate_sub] at rounded
    push_cast [ascending.le] at rounded ⊢
    exact ⟨rounded.1, rounded.2, interpolate_mem ascending low high⟩
  · rintro a rest rfl below
    exact if_pos below
  · rintro a rest rfl above
    exact curvePoint_over ascending above
  · rintro a b before after rfl low high
    rw [curvePoint_between ascending low high]
    exact ⟨rfl, rfl⟩
  · rw [convert_valid o r ascending, withOffset_fst]
  · rw [convert_valid o r ascending, withOffset_snd]

end Sys2Proof.Machine

/-! ## Laws of the cure (R48 to R51) -/

namespace Sys2Proof.Machine

open Sys2Proof

/-! ### The correction between two steps (R48) -/

theorem tdiv_fifty (p : Int) : p.tdiv 50 = if 0 ≤ p then p / 50 else -(-p / 50) := by
  split
  next nonneg => exact Int.tdiv_eq_ediv_of_nonneg nonneg
  next neg => rw [← Int.tdiv_eq_ediv_of_nonneg (by omega), Int.neg_tdiv, neg_neg]

/-- R48: truncated, the quotient has the product's sign, and less than one is cut from its size. -/
theorem tdiv_fifty_truncates (p : Int) :
    50 * |p.tdiv 50| ≤ |p| ∧ |p| < 50 * |p.tdiv 50| + 50 ∧ 0 ≤ p.tdiv 50 * p := by
  rw [tdiv_fifty]
  simp only [Int.abs_eq_natAbs]
  split
  next nonneg => exact ⟨by omega, by omega, mul_nonneg (by omega) nonneg⟩
  next neg => exact ⟨by omega, by omega, mul_nonneg_of_nonpos_of_nonpos (by omega) (by omega)⟩

/-- Within a step of 50 the correction leads from the lower rate towards the upper one and not past it. -/
theorem cureCorrection_mem {lo hi dt : Int} (start : 0 ≤ dt) (inside : dt < 50) :
    min lo hi ≤ lo + cureCorrection lo hi dt ∧ lo + cureCorrection lo hi dt ≤ max lo hi := by
  rw [cureCorrection, tdiv_fifty]
  rcases le_total lo hi with up | down
  · have nonneg : 0 ≤ (hi - lo) * dt := mul_nonneg (by omega) start
    have bound : (hi - lo) * dt ≤ (hi - lo) * 50 := mul_le_mul_of_nonneg_left inside.le (by omega)
    omega
  · have nonpos : (hi - lo) * dt ≤ 0 := mul_nonpos_of_nonpos_of_nonneg (by omega) start
    have bound : (hi - lo) * 50 ≤ (hi - lo) * dt := mul_le_mul_of_nonpos_left inside.le (by omega)
    omega

/-! ### The increment (Table 30) -/

variable {rates : List Nat} {t : Int} {i : Nat}

theorem cureIncrement_low (rates : List Nat) (low : t < 800) : cureIncrement rates t = 0 := if_pos low

theorem cureIncrement_high (rates : List Nat) (high : 1950 ≤ t) : cureIncrement rates t = rates.getD 23 0 :=
  (if_neg (by omega)).trans (if_pos high)

theorem cureIncrement_step (rates : List Nat) (step : i < 23) (low : 800 + 50 * (i : Int) ≤ t)
    (high : t < 850 + 50 * (i : Int)) :
    (cureIncrement rates t : Int) = rates.getD i 0 +
      cureCorrection (rates.getD i 0) (rates.getD (i + 1) 0) (t - (800 + 50 * i)) := by
  have place : ((t - 800) / 50).toNat = i := by omega
  have bounds := cureCorrection_mem (lo := rates.getD i 0) (hi := rates.getD (i + 1) 0)
    (by omega : 0 ≤ t - 800 - 50 * (i : Int)) (by omega)
  rw [cureIncrement, if_neg (by omega), if_neg (by omega), place, ← sub_sub]
  exact Int.toNat_of_nonneg (by omega)

theorem cureIncrement_step_mem (rates : List Nat) (step : i < 23) (low : 800 + 50 * (i : Int) ≤ t)
    (high : t < 850 + 50 * (i : Int)) :
    min (rates.getD i 0) (rates.getD (i + 1) 0) ≤ cureIncrement rates t ∧
      cureIncrement rates t ≤ max (rates.getD i 0) (rates.getD (i + 1) 0) := by
  have value := cureIncrement_step rates step low high
  have bounds := cureCorrection_mem (lo := rates.getD i 0) (hi := rates.getD (i + 1) 0)
    (by omega : 0 ≤ t - (800 + 50 * (i : Int))) (by omega)
  rw [← value] at bounds
  omega

theorem cureIncrement_start (rates : List Nat) (step : i < 23) :
    cureIncrement rates (800 + 50 * i) = rates.getD i 0 := by
  have value := cureIncrement_step rates step le_rfl (by omega : 800 + 50 * (i : Int) < 850 + 50 * i)
  rw [sub_self, cureCorrection, mul_zero, Int.zero_tdiv, add_zero] at value
  exact Int.natCast_inj.mp value

theorem cureIncrement_le (t : Int) {m : Nat} (bounds : ∀ x ∈ rates, x ≤ m) : cureIncrement rates t ≤ m := by
  have rate (k : Nat) : rates.getD k 0 ≤ m := by
    rcases lt_or_ge k rates.length with inside | outside
    · rw [List.getD_eq_getElem _ _ inside]
      exact bounds _ (List.getElem_mem inside)
    · rw [List.getD_eq_default _ _ outside]
      exact Nat.zero_le m
  rcases lt_or_ge t 800 with low | hot
  · rw [cureIncrement_low rates low]
    exact Nat.zero_le m
  rcases lt_or_ge t 1950 with between | high
  · have place := cureIncrement_step_mem rates (i := ((t - 800) / 50).toNat) (t := t) (by omega) (by omega) (by omega)
    exact place.2.trans (max_le (rate _) (rate _))
  · rw [cureIncrement_high rates high]
    exact rate 23

/-! ### The index (R49 to R51) -/

theorem addCure_of_temp (rates : List Nat) {z : ZoneRecord} (temp : z.temp = some t) :
    addCure rates z = { z with cure := min 16777215 (z.cure + cureIncrement rates t),
                               cureHot := z.cureHot || decide (2000 ≤ t) } := by
  rw [addCure, temp]
  rfl

/-- Settles O34: between two steps by `cureIncrement_step`, with the bounds of `cureCorrection_mem`. -/
theorem cureIncrement_holds : Obligations.CureIncrement := by
  intro rates t _ bounds
  refine ⟨cureIncrement_low rates, cureIncrement_high rates, fun i step =>
    ⟨cureIncrement_start rates step, cureIncrement_step_mem rates step, fun low high => ?_⟩,
    cureIncrement_le t bounds, fun z temp held => ?_⟩
  · exact ⟨_, cureIncrement_step rates step low high, tdiv_fifty_truncates _⟩
  · rw [addCure_of_temp rates temp]
    exact ⟨rfl, le_min held (Nat.le_add_right _ _), rfl⟩

end Sys2Proof.Machine

/-! ## Laws of the heat regulation: one zone at a control period (R50, R60 to R67) -/

namespace Sys2Proof.Machine

open Sys2Proof

/-! ### Updates of one zone record -/

theorem State.updZone_updZone (s : State) (z : ZoneNo) (f g : ZoneRecord → ZoneRecord) :
    (s.updZone z f).updZone z g = s.updZone z (fun q => g (f q)) := by
  rw [State.updZone_eq (s.updZone z f), State.updZone_self]
  exact congrArg (fun v => { s with zones := v }) (Vector.set_set ..)

theorem State.updZone_id (s : State) (z : ZoneNo) : s.updZone z (fun q => q) = s :=
  congrArg (fun v => { s with zones := v }) (Vector.set_getElem_self ..)

variable {s : State} {z : ZoneNo}

/-! ### The work of a period by the zone's state (R60) -/

/-- The states in which a zone is regulated (Table 37). -/
def ZoneState.regulated (x : ZoneState) : Prop := x = .regulating ∨ x = .holding ∨ x = .fallback

theorem State.zoneFresh_iff :
    s.zoneFresh z = true ↔ s.targets[zoneTarget z].isFresh = true ∧ s.zones[z].temp ≠ none := by
  rw [State.zoneFresh, Bool.and_eq_true, Option.isSome_iff_ne_none]

theorem State.periodZone_stale (state : s.zones[z].state.regulated) (stale : s.zoneFresh z = false) :
    s.periodZone z = (s.zoneStale z).markStale z := by
  unfold State.periodZone
  obtain state | state | state := state <;> simp only [state, stale, Bool.false_eq_true, if_false]

theorem State.periodZone_fresh (state : s.zones[z].state.regulated) (fresh : s.zoneFresh z = true) :
    s.periodZone z = (s.zoneRegulate z).zoneCure z := by
  unfold State.periodZone
  obtain state | state | state := state <;> simp only [state, fresh, if_true]

theorem State.periodZone_unregulated (state : s.zones[z].state = .unassigned ∨ s.zones[z].state = .idle) :
    s.periodZone z = s.updZone z (fun q => { q with preset := 0 }) := by
  unfold State.periodZone
  obtain state | state := state <;> simp only [state]

/-! ### A stale zone (R63 to R65, R67) -/

theorem State.markStale_eq (s : State) (z : ZoneNo) :
    s.markStale z = s.updZone z (fun q => { q with staleSeen := q.staleSeen || s.zoneInCycle z }) := by
  unfold State.markStale
  cases s.zoneInCycle z with
  | true => simp only [if_true, Bool.or_true]
  | false => simp only [Bool.false_eq_true, if_false, Bool.or_false, State.updZone_id]

theorem State.zoneHold_markStale (s : State) (z : ZoneNo) (n : Nat) (st : ZoneState) :
    (s.zoneHold z n st).markStale z = s.updZone z (fun q => { q with
      state := st, staleCount := n,
      preset := if st == .fallback then s.tables.zt[z].fallback else q.lastDuty,
      staleSeen := q.staleSeen || s.zoneInCycle z }) := by
  rw [State.markStale_eq, State.zoneHold, State.updZone_updZone]
  rfl

theorem State.zoneStale_regulating_in_grace (state : s.zones[z].state = .regulating)
    (grace : 1 ≤ s.tables.zt[z].grace) :
    s.zoneStale z = (s.raise .zoneStale z.val 0).zoneHold z 1 .holding := by
  simp only [State.zoneStale, state, grace, if_true]

theorem State.zoneStale_regulating_no_grace (state : s.zones[z].state = .regulating)
    (grace : s.tables.zt[z].grace = 0) :
    s.zoneStale z = ((s.raise .zoneStale z.val 0).raise .zoneFallback z.val 0).zoneHold z 1 .fallback := by
  have spent : ¬1 ≤ s.tables.zt[z].grace := by omega
  simp only [State.zoneStale, state, spent, if_false]

theorem State.zoneStale_holding_in_grace (state : s.zones[z].state = .holding)
    (grace : min 255 (s.zones[z].staleCount + 1) ≤ s.tables.zt[z].grace) :
    s.zoneStale z = s.zoneHold z (min 255 (s.zones[z].staleCount + 1)) .holding := by
  simp only [State.zoneStale, state, grace, if_true]

theorem State.zoneStale_holding_past_grace (state : s.zones[z].state = .holding)
    (grace : s.tables.zt[z].grace < min 255 (s.zones[z].staleCount + 1)) :
    s.zoneStale z = (s.raise .zoneFallback z.val 0).zoneHold z (min 255 (s.zones[z].staleCount + 1)) .fallback := by
  simp only [State.zoneStale, state, Nat.not_le.mpr grace, if_false]

theorem State.zoneStale_fallback (state : s.zones[z].state = .fallback) :
    s.zoneStale z = s.zoneHold z (min 255 (s.zones[z].staleCount + 1)) .fallback := by
  simp only [State.zoneStale, state]

theorem State.periodZone_held {t : State} {n : Nat} {st : ZoneState} (state : s.zones[z].state.regulated)
    (stale : s.zoneFresh z = false) (held : s.zoneStale z = t.zoneHold z n st) :
    s.periodZone z = t.updZone z (fun q => { q with
      state := st, staleCount := n,
      preset := if st == .fallback then t.tables.zt[z].fallback else q.lastDuty,
      staleSeen := q.staleSeen || t.zoneInCycle z }) := by
  rw [State.periodZone_stale state stale, held, State.zoneHold_markStale]

/-! ### A fresh zone (R61, R62, R66, R50) -/

theorem State.zoneRecipe_eq {p : PressNo} {k : Nat} {r : RecipeNo} (press : s.pressOf z = some p)
    (place : s.positionOf z = some k) (recipe : s.presses[p].recipe = some r) :
    s.zoneRecipe z = some (s.tables.rt[r], s.tables.rt[r].setpoints.getD k 0) := by
  simp only [State.zoneRecipe, press, place, State.recipeOf, recipe, Option.map_some]

theorem State.zonePi_eq {r : Recipe} {sp : Nat} {t : Int} (recipe : s.zoneRecipe z = some (r, sp))
    (temp : s.zones[z].temp = some t) :
    s.zonePi z = s.updZone z (fun q => { q with
      state := .regulating, integ := (piStep r sp t s.zones[z].integ).2,
      lastDuty := (piStep r sp t s.zones[z].integ).1, preset := (piStep r sp t s.zones[z].integ).1,
      staleCount := 0 }) := by
  simp only [State.zonePi, recipe, temp]

theorem State.zoneCuring_of_press {p : PressNo} (press : s.pressOf z = some p) :
    s.zoneCuring z = true ↔ s.presses[p].state = .curing := by
  rw [State.zoneCuring_iff, press]
  simp only [Option.some.injEq, exists_eq_left']

theorem State.zoneCure_curing (curing : s.zoneCuring z = true) : s.zoneCure z = s.updZone z (addCure (s.zoneRates z)) :=
  if_pos curing

theorem State.zoneCure_not_curing (out : ¬s.zoneCuring z = true) : s.zoneCure z = s := if_neg out

theorem State.zoneRegulate_regulating (state : s.zones[z].state = .regulating) : s.zoneRegulate z = s.zonePi z := by
  simp only [State.zoneRegulate, state]

theorem State.zoneRegulate_recovers (state : s.zones[z].state = .holding ∨ s.zones[z].state = .fallback) :
    s.zoneRegulate z = (s.raise .zoneRecovered z.val s.zones[z].staleCount).zonePi z := by
  unfold State.zoneRegulate
  obtain state | state := state <;> simp only [state]

/-- The PI computation of a zone and then, with its press in CURING, its cure increment. -/
theorem State.zonePi_zoneCure {p : PressNo} {k : Nat} {r : RecipeNo} {t : Int} (press : s.pressOf z = some p)
    (place : s.positionOf z = some k) (recipe : s.presses[p].recipe = some r) (temp : s.zones[z].temp = some t) :
    let q := s.zones[z]
    let d := piStep s.tables.rt[r] (s.tables.rt[r].setpoints.getD k 0) t q.integ
    let n : ZoneRecord :=
      { q with state := .regulating, integ := d.2, lastDuty := d.1, preset := d.1, staleCount := 0 }
    (s.zonePi z).zoneCure z = { s with zones := s.zones.set z (if s.presses[p].state = .curing
      then { n with cure := min 16777215 (q.cure + cureIncrement (s.zoneRates z) t),
                    cureHot := q.cureHot || decide (2000 ≤ t) }
      else n) } := by
  intro q d n
  have computed : s.zonePi z = s.updZone z (fun _ => n) := State.zonePi_eq (State.zoneRecipe_eq press place recipe) temp
  rw [computed]
  have same : (s.updZone z fun _ => n).zoneCuring z = true ↔ s.presses[p].state = .curing :=
    State.zoneCuring_of_press press
  by_cases curing : s.presses[p].state = .curing
  · have cure := addCure_of_temp (z := n) (s.zoneRates z) temp
    rw [if_pos curing, State.zoneCure_curing (same.mpr curing), State.updZone_updZone]
    exact congrArg (fun x => s.updZone z (fun _ => x)) cure
  · rw [if_neg curing, State.zoneCure_not_curing (mt same.mp curing)]
    rfl

/-- Settles O36: the state of the zone and its freshness choose the branch of the period's work, the grace the one of
a stale zone. -/
theorem zoneAtPeriod : Obligations.ZoneAtPeriod := by
  refine ⟨fun s z absent => ?_, fun s z p k r t press place recipe fresh temp => ?_⟩
  · have stale : s.zoneFresh z = false := by
      rw [← Bool.not_eq_true, State.zoneFresh_iff]
      rintro ⟨fresh, present⟩
      exact absent.elim (fun old => Bool.false_ne_true (old.symm.trans fresh)) present
    exact ⟨
      fun state grace => State.periodZone_held (.inl state) stale (State.zoneStale_regulating_in_grace state grace),
      fun state grace => State.periodZone_held (.inl state) stale (State.zoneStale_regulating_no_grace state grace),
      fun state grace => State.periodZone_held (.inr (.inl state)) stale (State.zoneStale_holding_in_grace state grace),
      fun state grace =>
        State.periodZone_held (.inr (.inl state)) stale (State.zoneStale_holding_past_grace state grace),
      fun state => State.periodZone_held (.inr (.inr state)) stale (State.zoneStale_fallback state),
      fun state => State.periodZone_unregulated state⟩
  · have fresh : s.zoneFresh z = true := State.zoneFresh_iff.mpr ⟨fresh, Option.ne_none_iff_exists'.mpr ⟨t, temp⟩⟩
    refine ⟨fun state => ?_, fun state => ?_, fun state => State.periodZone_unregulated state.symm⟩
    · rw [State.periodZone_fresh (.inl state) fresh, State.zoneRegulate_regulating state]
      exact State.zonePi_zoneCure press place recipe temp
    · rw [State.periodZone_fresh (.inr state) fresh, State.zoneRegulate_recovers state]
      exact State.zonePi_zoneCure (s := s.raise .zoneRecovered z.val s.zones[z].staleCount) press place recipe temp

end Sys2Proof.Machine

/-! ## Laws of one press: its updates and its moves (R101) -/

namespace Sys2Proof.Machine

open Sys2Proof

section
variable (s : State) (p : PressNo)

theorem State.updPress_eq (f : Press → Press) :
    s.updPress p f = { s with presses := s.presses.set p (f s.presses[p]) } := rfl

theorem State.updPress_updPress (f g : Press → Press) :
    (s.updPress p f).updPress p g = s.updPress p (fun q => g (f q)) := by
  rw [State.updPress_eq (s.updPress p f), State.updPress_self]
  exact congrArg (fun v => { s with presses := v }) (Vector.set_set ..)

/-- An update counts by what it makes of the press as it stands. -/
theorem State.updPress_congr {f g : Press → Press} (same : f s.presses[p] = g s.presses[p]) :
    s.updPress p f = s.updPress p g := by
  rw [State.updPress_eq, State.updPress_eq, same]

theorem State.updPress_id {f : Press → Press} (same : f s.presses[p] = s.presses[p]) : s.updPress p f = s := by
  rw [State.updPress_eq, same]
  exact congrArg (fun v => { s with presses := v }) (Vector.set_getElem_self ..)

theorem State.moved_eq (q : Press) : s.moved p q = (s.updPress p (fun _ => q)).raise .pressState p.val q.state.code :=
  rfl

/-- A move overrides an update of the same press. -/
theorem State.moved_updPress (f : Press → Press) (q : Press) : (s.updPress p f).moved p q = s.moved p q := by
  rw [State.moved_eq, State.updPress_updPress, State.moved_eq]

@[simp] theorem State.moved_self (q : Press) : (s.moved p q).presses[p] = q := s.updPress_self p (fun _ => q)

theorem State.moved_other {p q : PressNo} (x : Press) (other : q ≠ p) : (s.moved p x).presses[q] = s.presses[q] :=
  s.updPress_other (fun _ => x) other

theorem State.pushDown_updPress (f : Press → Press) (x : Frame) :
    (s.updPress p f).pushDown x = (s.pushDown x).updPress p f := rfl

theorem State.pushEject_updPress (f : Press → Press) (x : Frame) :
    (s.updPress p f).pushEject p x = (s.pushEject p x).updPress p f := rfl

variable {s p}

theorem State.setPressState_same {st : PressState} (same : s.presses[p].state = st) : s.setPressState p st = s :=
  if_pos (beq_iff_eq.mpr same)

theorem State.setPressState_moved {st : PressState} (changes : s.presses[p].state ≠ st) :
    s.setPressState p st = s.moved p { s.presses[p] with state := st } :=
  if_neg (by simpa using changes)

/-- A press that is updated and then changes its state has moved. -/
theorem State.updPress_setPressState {f : Press → Press} {st : PressState} (changes : (f s.presses[p]).state ≠ st) :
    (s.updPress p f).setPressState p st = s.moved p { f s.presses[p] with state := st } := by
  rw [State.setPressState_moved (by rwa [State.updPress_self]), State.updPress_self, State.moved_updPress]

theorem State.carries_iff {n : SlotNo} {c : CycleRecord} {r : RecipeNo} :
    s.carries p n c r = true ↔
      s.presses[p].slot = some n ∧ s.presses[p].cycle = some c ∧ s.presses[p].recipe = some r := by
  simp only [State.carries, Bool.and_eq_true, beq_iff_eq, and_assoc]

theorem State.recipeOf_of {r : RecipeNo} (recipe : s.presses[p].recipe = some r) :
    s.recipeOf p = some s.tables.rt[r] := by
  rw [State.recipeOf, recipe, Option.map_some]

theorem State.guardOpen_iff : s.guardOpen p = true ↔ s.guardIsOpen p := by
  simp only [State.guardOpen, State.guardIsOpen, Bool.and_eq_true, GuardLevel.isOpen_eq, beq_iff_eq]
end

/-- An event of the part is taken while RSTn is high, with the boundaries at its end (R10). -/
theorem event_of_high (f : State → State) {s : State} (high : s.rstn = true) : event f s = .next (f s).kick :=
  if_pos high

end Sys2Proof.Machine

/-! ## Laws of the command gate (R99, R100, R103, R108 to R111) -/

namespace Sys2Proof.Machine

open Sys2Proof

/-! ### Lookup (R99) -/

theorem allGt_eq : allGt = List.finRange 16 := by decide

theorem Tables.gateCode_eq_some {t : Tables} {code : Byte} {i : Fin 16} :
    t.gateCode code = some i ↔ (t.gt[i].cls ≠ .none ∧ t.gt[i].code = code) ∧
      ∀ j : Fin 16, j < i → t.gt[j].cls ≠ .none → t.gt[j].code ≠ code := by
  rw [Tables.gateCode, allGt_eq, find?_finRange_eq_some]
  simp [GtEntry.active]

theorem Tables.gateCode_eq_none {t : Tables} {code : Byte} :
    t.gateCode code = none ↔ ∀ i : Fin 16, t.gt[i].cls ≠ .none → t.gt[i].code ≠ code := by
  simp [Tables.gateCode, allGt_eq, GtEntry.active, List.find?_eq_none]

theorem Tables.gateEntry_eq_some {t : Tables} {dst : Addr} {code : Byte} {i : Fin 16} :
    t.gateEntry dst code = some i ↔ (t.gt[i].cls ≠ .none ∧ t.gt[i].dest = dst ∧ t.gt[i].code = code) ∧
      ∀ j : Fin 16, j < i → t.gt[j].cls ≠ .none → t.gt[j].dest = dst → t.gt[j].code ≠ code := by
  rw [Tables.gateEntry, allGt_eq, find?_finRange_eq_some]
  simp [GtEntry.active, and_assoc]

theorem Tables.gateEntry_eq_none {t : Tables} {dst : Addr} {code : Byte} :
    t.gateEntry dst code = none ↔
      ∀ i : Fin 16, t.gt[i].cls ≠ .none → t.gt[i].dest = dst → t.gt[i].code ≠ code := by
  simp [Tables.gateEntry, allGt_eq, GtEntry.active, List.find?_eq_none]

section
variable {s : State} {f : Frame} {code : Byte} {args : List Byte} {i : Fin 16}

theorem State.presentCmd_empty (empty : f.payload = []) : s.presentCmd f = s.pushDown f := by
  simp only [State.presentCmd, empty]

theorem State.presentCmd_broadcast (payload : f.payload = code :: args) (all : f.dstAddr = 63) :
    s.presentCmd f = (s.tables.gateCode code).elim (s.pushDown f)
      (fun i => s.refuse s.tables.gt[i].press .broadcast) := by
  simp only [State.presentCmd, payload, all, beq_self_eq_true, if_true]
  cases s.tables.gateCode code with
  | none => rfl
  | some i => rfl

theorem State.presentCmd_single (payload : f.payload = code :: args) (single : f.dstAddr ≠ 63) :
    s.presentCmd f = (s.tables.gateEntry f.dstAddr code).elim (s.pushDown f)
      (fun i => s.gateDecide s.tables.gt[i].press s.tables.gt[i].cls f) := by
  simp only [State.presentCmd, payload, beq_iff_eq, single, if_false]
  cases s.tables.gateEntry f.dstAddr code with
  | none => rfl
  | some i => rfl

/-! ### Decision (R100) -/

variable {p : PressNo} {cls : GateClass}

theorem State.gateDecide_config (mode : s.mode = .config) : s.gateDecide p cls f = s.refuse p .config := by
  simp only [State.gateDecide, mode, beq_self_eq_true, if_true]

theorem State.gateDecide_idle (mode : s.mode = .run) (idle : s.presses[p].state = .idle) :
    s.gateDecide p cls f = s.refuse p .notReady := by
  have inRun : ¬(s.mode == .config) = true := by simp [mode]
  rw [State.gateDecide, if_neg inRun, if_pos (beq_iff_eq.mpr idle)]

theorem State.gateDecide_awake (mode : s.mode = .run) (awake : s.presses[p].state ≠ .idle) :
    s.gateDecide p cls f = s.gateByState p cls f := by
  have inRun : ¬(s.mode == .config) = true := by simp [mode]
  rw [State.gateDecide, if_neg inRun, if_neg (mt beq_iff_eq.mp awake)]

/-- A gated command is decided by the state of its press (Table 61). -/
theorem Gated.presentCmd (gated : Gated s f cls p) : s.presentCmd f = s.gateByState p cls f := by
  obtain ⟨run, awake, single, code, args, i, payload, entry, rfl, rfl⟩ := gated
  rw [State.presentCmd_single payload single, entry]
  exact State.gateDecide_awake run awake

theorem Gated.close (gated : Gated s f .close p) :
    s.presentCmd f = if s.presses[p].state = .ready then s.closeReady p f else s.refuse p .state := by
  rw [gated.presentCmd]
  simp only [State.gateByState, beq_iff_eq]

theorem Gated.open (gated : Gated s f .open p) :
    s.presentCmd f = if s.presses[p].state = .curing then s.openCuring p f
      else if s.presses[p].state = .cured then s.forwardOpen p f else s.refuse p .state := by
  rw [gated.presentCmd]
  simp only [State.gateByState, beq_iff_eq]

theorem Gated.eject (gated : Gated s f .eject p) :
    s.presentCmd f = if s.presses[p].state = .opened then s.ejectOpened p f
      else if s.presses[p].state = .stuck then s.ejectStuck p f else s.refuse p .state := by
  rw [gated.presentCmd]
  simp only [State.gateByState, beq_iff_eq]

/-! ### The checks of a CLOSE and of an EJECT in their order (R103, R111) -/

theorem State.releasePending_iff : s.releasePending p = true ↔ ∃ x ∈ s.line.release, x.press = p := by
  simp [State.releasePending]

theorem State.closeReady_eq : s.closeReady p f =
    if s.guardOpen p = true then s.refuse p .guard
    else if s.sync.lost = true then s.refuse p .syncLost
    else if s.releasePending p = true then s.refuse p .pending
    else ((s.presses[p].recipe).bind s.chargeFor).elim (s.refuse p .noCharge) (s.closeWith p f) := by
  rw [State.closeReady]
  cases (s.presses[p].recipe).bind s.chargeFor with
  | none => rfl
  | some e => rfl

theorem State.chargeFor_eq_none {r : RecipeNo} : s.chargeFor r = none ↔ ∀ e ∈ s.charges, e.recipe ≠ r := by
  simp [State.chargeFor, List.find?_eq_none]

theorem State.noCharge_of (none : ∀ e ∈ s.charges, s.presses[p].recipe ≠ some e.recipe) :
    (s.presses[p].recipe).bind s.chargeFor = Option.none := by
  rw [Option.bind_eq_none_iff]
  intro r recipe
  exact State.chargeFor_eq_none.mpr fun e mem same => none e mem (by rw [recipe, same])

theorem State.ejectOpened_guard (guard : s.guardIsOpen p) : s.ejectOpened p f = s.refuse p .guard :=
  if_pos (State.guardOpen_iff.mpr guard)

theorem State.ejectOpened_starts (guard : ¬s.guardIsOpen p) : s.ejectOpened p f = s.startStroke p f :=
  if_neg (mt State.guardOpen_iff.mp guard)

theorem State.ejectStuck_guard (guard : s.guardIsOpen p) : s.ejectStuck p f = s.refuse p .guard :=
  if_pos (State.guardOpen_iff.mpr guard)

theorem State.ejectStuck_retries {n : SlotNo} {c : CycleRecord} {r : RecipeNo} (carries : s.carries p n c r = true)
    (guard : ¬s.guardIsOpen p) :
    s.ejectStuck p f = if c.retries = s.tables.rt[r].retries then s.refuse p .retries
      else (s.updCycle p (fun c => { c with retries := c.retries + 1 })).startStroke p f := by
  obtain ⟨-, cycle, recipe⟩ := State.carries_iff.mp carries
  simp only [State.ejectStuck, mt State.guardOpen_iff.mp guard, State.retriesUsed, cycle, State.recipeOf_of recipe,
    Option.elim_some, beq_iff_eq, Bool.false_eq_true, if_false]
end

/-- Settles O21: the lookup by the first active entry, then the checks of each class in the order of Table 61. -/
theorem gateLookupAndRefusals : Obligations.GateLookupAndRefusals := by
  refine ⟨fun s f => ?_, fun s f p => ⟨fun gated => ?_, fun gated curing cured => ?_, fun gated => ?_⟩⟩
  · refine ⟨State.presentCmd_empty, fun code args payload all => ?_, fun code args payload single => ?_,
      fun p c => ⟨s.refuse_only p c, rfl⟩⟩
    · rw [State.presentCmd_broadcast payload all]
      refine ⟨fun no => ?_, fun i active own first => ?_⟩
      · rw [Tables.gateCode_eq_none.mpr no, Option.elim_none]
      · rw [Tables.gateCode_eq_some.mpr ⟨⟨active, own⟩, first⟩, Option.elim_some]
    · rw [State.presentCmd_single payload single]
      refine ⟨fun no => ?_, fun i active dest own first => ?_⟩
      · rw [Tables.gateEntry_eq_none.mpr no, Option.elim_none]
      · rw [Tables.gateEntry_eq_some.mpr ⟨⟨active, dest, own⟩, first⟩, Option.elim_some]
        exact ⟨State.gateDecide_config, State.gateDecide_idle⟩
  · rw [gated.close, State.closeReady_eq, ← State.guardOpen_iff, ← State.releasePending_iff]
    refine ⟨fun out => if_neg out, fun ready => ?_⟩
    rw [if_pos ready]
    refine ⟨fun guard => if_pos guard, fun guard lost => ?_, fun guard sync pending => ?_,
      fun guard sync pending no => ?_⟩
    · rw [if_neg guard, if_pos lost]
    · rw [if_neg guard, if_neg (by simp [sync]), if_pos pending]
    · have quiet : ¬s.releasePending p = true := by
        rw [State.releasePending_iff]
        exact fun ⟨x, mem, own⟩ => pending x mem own
      rw [if_neg guard, if_neg (by simp [sync]), if_neg quiet, State.noCharge_of no, Option.elim_none]
  · rw [gated.open, if_neg curing, if_neg cured]
  · rw [gated.eject]
    refine ⟨fun opened stuck => by rw [if_neg opened, if_neg stuck], fun opened guard => ?_, fun stuck guard => ?_,
      fun n c r carries stuck guard used => ?_⟩
    · rw [if_pos opened, State.ejectOpened_guard guard]
    · rw [if_neg (by rw [stuck]; decide), if_pos stuck, State.ejectStuck_guard guard]
    · rw [if_neg (by rw [stuck]; decide), if_pos stuck, State.ejectStuck_retries carries guard, if_pos used]

/-! ### OPEN in CURED and in CURING (R108 to R110) -/

section
variable {s : State} {f : Frame} {p : PressNo} {r : RecipeNo}

theorem State.honours_iff (recipe : s.presses[p].recipe = some r) :
    s.honours p f = true ↔ (f.payload.getD 1 0).getLsbD 0 = true ∧ s.tables.rt[r].overrideOk = true := by
  simp only [State.honours, overrideFlag, State.recipeOf_of recipe, Option.elim_some, Bool.and_eq_true]

theorem State.forwardOpen_eq (changes : s.presses[p].state ≠ .opening) :
    s.forwardOpen p f = (s.pushDown f).moved p
      { s.presses[p] with state := .opening, openT := some { start := s.now, dur := s.tables.pt[p].openMs } } :=
  State.updPress_setPressState (s := s.pushDown f) changes

theorem State.overrideOpen_eq (changes : s.presses[p].state ≠ .opening) :
    s.overrideOpen p f = (s.pushDown f).moved p { s.presses[p] with
      state := .opening, openT := some { start := s.now, dur := s.tables.pt[p].openMs },
      hold := none, holdT := none, override := true, dwellT := none } := by
  rw [State.overrideOpen, State.forwardOpen_eq (by rwa [State.updPress_self]), State.updPress_self,
    State.pushDown_updPress, State.moved_updPress]
  rfl

theorem State.holdOpen_empty (recipe : s.presses[p].recipe = some r) (empty : s.presses[p].hold = none) :
    s.holdOpen p f = (s.updPress p (fun q => { q with
      hold := some f,
      holdT := if s.tables.rt[r].openHold = 0 then none
        else some { start := s.now, dur := 1000 * s.tables.rt[r].openHold } })).raise .openHeld p.val 0 := by
  simp only [State.holdOpen, empty, State.recipeOf_of recipe, Option.elim_some, beq_iff_eq, State.timer]

theorem State.holdOpen_full (full : s.presses[p].hold ≠ none) : s.holdOpen p f = s.count 7 := by
  obtain ⟨g, held⟩ := Option.ne_none_iff_exists'.mp full
  simp only [State.holdOpen, held]

end

/-- Settles O23: the state, the override and the hold slot choose the branch. -/
theorem openInCuringAndCured : Obligations.OpenInCuringAndCured := by
  intro s f p r gated recipe honoured openT sent
  have honours : s.honours p f = true ↔ honoured := State.honours_iff recipe
  rw [gated.open]
  refine ⟨fun cured => ?_, fun curing yes => ?_, fun curing no empty => ?_, fun curing no full => ?_⟩
  · rw [if_neg (by rw [cured]; decide), if_pos cured]
    exact State.forwardOpen_eq (by rw [cured]; decide)
  · rw [if_pos curing, State.openCuring, if_pos (honours.mpr yes)]
    exact State.overrideOpen_eq (by rw [curing]; decide)
  · rw [if_pos curing, State.openCuring, if_neg (mt honours.mp no), State.holdOpen_empty recipe empty]
    rfl
  · rw [if_pos curing, State.openCuring, if_neg (mt honours.mp no), State.holdOpen_full full]

/-! ### EJECT (R111, R120) -/

/-- Where the halt of a press stands after it is ordered (R125). -/
theorem State.orderHalt_self (s : State) (p : PressNo) :
    (s.orderHalt p).presses[p] = { s.presses[p] with
      halt := if s.ejectStands p = true then .waiting ((s.presses[p].halt.frame?).getD (s.haltFrame p))
        else if s.presses[p].halt = .none then .ready (s.haltFrame p) else s.presses[p].halt } := by
  simp only [State.orderHalt, beq_iff_eq]
  split
  next stands => exact State.updPress_self ..
  next gone =>
    split
    next none =>
      rw [State.updPress_self, none]
      rfl
    next held => rfl

/-- The press while it is made STUCK: its state is changed last (R123). -/
theorem State.enterStuck_self (s : State) (p : PressNo) (c : StuckCause) :
    (s.enterStuck p c).presses[p].state = .stuck ∧
      (s.ejectStands p = true → ∃ g, (s.enterStuck p c).presses[p].halt = .waiting g) := by
  let t := ((s.updPress p (fun q => { q with ejectT := none, debounce := 0, stuckCause := some c })).updCycle p
    c.mark).orderHalt p
  have final : (s.enterStuck p c).presses[p] = (t.setPressState p .stuck).presses[p] := rfl
  have halted (stands : s.ejectStands p = true) : ∃ g, t.presses[p].halt = .waiting g := by
    rw [State.orderHalt_self]
    exact ⟨_, if_pos stands⟩
  rw [final]
  by_cases already : t.presses[p].state = .stuck
  · rw [State.setPressState_same already]
    exact ⟨already, halted⟩
  · rw [State.setPressState_moved already, State.moved_self]
    exact ⟨rfl, halted⟩

section
variable {s : State} {f : Frame} {p : PressNo}

theorem State.ejectStands_pushEject : (s.pushEject p f).ejectStands p = true := by
  simp [State.ejectStands, State.pushEject]

/-- A stroke starts with its EJECT in the DOWN buffer, and in D_LOST is stopped at once (R111, R120). -/
theorem State.startStroke_eq (changes : s.presses[p].state ≠ .ejecting) :
    let t := (s.pushEject p f).moved p { s.presses[p] with
      state := .ejecting, stroke := s.presses[p].stroke + 1, ejectStart := some s.now, debounce := 0,
      stuckCause := none, ejectT := some { start := s.now, dur := s.tables.pt[p].ejectMs } }
    s.startStroke p f = if s.loss.lost = true then t.enterStuck p .line else t := by
  intro t
  have started : ((s.pushEject p f).updPress p (fun q =>
      { q with stroke := q.stroke + 1, ejectStart := some s.now, debounce := 0, stuckCause := none,
               ejectT := s.timer s.tables.pt[p].ejectMs })).setPressState p .ejecting = t :=
    State.updPress_setPressState (s := s.pushEject p f) changes
  rw [State.startStroke, started]

/-- The EJECT that passes its checks, with the retries it leaves in the cycle record (R111). -/
theorem Gated.eject_starts {n : SlotNo} {c : CycleRecord} {r : RecipeNo} {k : Nat} (gated : Gated s f .eject p)
    (carries : s.carries p n c r = true) (guard : ¬s.guardIsOpen p)
    (may : (s.presses[p].state = .opened ∧ k = c.retries) ∨
      (s.presses[p].state = .stuck ∧ c.retries ≠ s.tables.rt[r].retries ∧ k = c.retries + 1)) :
    s.presentCmd f = (s.updPress p (fun q => { q with cycle := some { c with retries := k } })).startStroke p f := by
  obtain ⟨-, cycle, -⟩ := State.carries_iff.mp carries
  rw [gated.eject]
  obtain ⟨opened, rfl⟩ | ⟨stuck, left, rfl⟩ := may
  · rw [if_pos opened, State.ejectOpened_starts guard, State.updPress_id s p (by rw [← cycle])]
  · rw [if_neg (by rw [stuck]; decide), if_pos stuck, State.ejectStuck_retries carries guard, if_neg left,
      State.updCycle]
    refine congrArg (fun t : State => t.startStroke p f) (State.updPress_congr s p ?_)
    rw [cycle, Option.map_some]

end

/-- Settles O24: the retries, then the stroke; with the line lost its EJECT still stands, so the halt waits for it. -/
theorem ejectStartsStroke : Obligations.EjectStartsStroke := by
  intro s f p n c r k gated carries guard may stroke older t
  have state : s.presses[p].state ≠ .ejecting := by
    obtain ⟨opened, -⟩ | ⟨stuck, -⟩ := may
    · rw [opened]; decide
    · rw [stuck]; decide
  have begun : t = (s.pushEject p f).moved p stroke := by
    simp only [t, older, State.pushEject, beq_iff_eq]
  have started : s.presentCmd f = if s.loss.lost = true then t.enterStuck p .line else t := by
    rw [gated.eject_starts carries guard may, State.startStroke_eq (by rwa [State.updPress_self]), State.updPress_self,
      State.pushEject_updPress, State.moved_updPress, begun]
    rfl
  refine ⟨fun kept => ?_, fun lost => ?_⟩
  · rw [started, if_neg (by simp [kept])]
  · obtain ⟨stuck, waits⟩ := State.enterStuck_self t p .line
    rw [started, if_pos lost]
    exact ⟨rfl, stuck, waits (by rw [begun]; exact State.ejectStands_pushEject (s := s) (f := f))⟩

end Sys2Proof.Machine

/-! ## Laws of the CURED event and of the press timers (R104 to R110, R115) -/

namespace Sys2Proof.Machine

open Sys2Proof

section
variable {s : State} {p : PressNo}

/-! ### The CURED event (R107) -/

theorem State.curedTest_iff {r : RecipeNo} (recipe : s.presses[p].recipe = some r) :
    s.curedTest p = true ↔ s.presses[p].state = .curing ∧ s.presses[p].dwellDone = true ∧
      ∀ z ∈ s.tables.pt[p].zones, s.tables.rt[r].threshold ≤ s.zones[z].cure := by
  simp only [State.curedTest, State.recipeOf_of recipe, Option.elim_some, State.zonesOf, Bool.and_eq_true, beq_iff_eq,
    List.all_eq_true, List.mem_map, forall_exists_index, and_imp, forall_apply_eq_imp_iff₂, decide_eq_true_eq,
    and_assoc]

theorem State.state_of_curedTest (met : s.curedTest p = true) : s.presses[p].state = .curing := by
  simp only [State.curedTest, Bool.and_eq_true, beq_iff_eq] at met
  exact met.1.1

/-- The press that has become CURED: dwell timer cancelled, and in the record the time since it closed (R107). -/
def Press.cured (q : Press) (now : Time) : Press :=
  { q with
    state := .cured, dwellT := none,
    cycle := q.cycle.map (fun c =>
      { c with cureTime := q.closed.map (fun t => min 65534 ((now - t).toNat / 1000)) }) }

/-- The press that has released its held OPEN (R107). -/
def Press.released (q : Press) (now : Time) (openMs : Nat) : Press :=
  { q with state := .opening, hold := none, holdT := none, openT := some { start := now, dur := openMs } }

theorem State.releaseOpen_eq (f : Frame) (changes : s.presses[p].state ≠ .opening) :
    s.releaseOpen p f = ((s.pushRelease p .openCmd f).raise .openReleased p.val 0).moved p
      (s.presses[p].released s.now s.tables.pt[p].openMs) := by
  let t := (s.pushRelease p .openCmd f).raise .openReleased p.val 0
  have commute : s.releaseOpen p f = ((t.updPress p (fun q => { q with hold := none, holdT := none })).updPress p
      (fun q => { q with openT := s.timer s.tables.pt[p].openMs })).setPressState p .opening := rfl
  rw [commute, State.updPress_updPress, State.updPress_setPressState (s := t) changes]
  rfl

/-- The CURED event, and the release of a held OPEN after it. -/
theorem State.becomeCured_entered (state : s.presses[p].state = .curing) :
    let cured := s.moved p (s.presses[p].cured s.now)
    s.becomeCured p = s.presses[p].hold.elim cured (cured.releaseOpen p) := by
  intro cured
  have entered : (((s.updCycle p (fun c =>
      { c with cureTime := (s.presses[p].closed).map (secondsSince s.now) })).updPress p
        (fun q => { q with dwellT := none })).setPressState p .cured) = cured := by
    rw [State.updCycle, State.updPress_updPress, State.updPress_setPressState (by rw [state]; decide)]
    rfl
  rw [State.becomeCured, entered]
  cases s.presses[p].hold with
  | none => rfl
  | some f => rfl

theorem State.becomeCured_eq (state : s.presses[p].state = .curing) :
    let cured := s.moved p (s.presses[p].cured s.now)
    s.becomeCured p =
      s.presses[p].hold.elim cured (fun f =>
        ((cured.pushRelease p .openCmd f).raise .openReleased p.val 0).moved p
          ((s.presses[p].cured s.now).released s.now s.tables.pt[p].openMs)) := by
  intro cured
  rw [State.becomeCured_entered state]
  have self : cured.presses[p] = s.presses[p].cured s.now := State.moved_self ..
  have changes : cured.presses[p].state ≠ .opening := by
    rw [self]
    show PressState.cured ≠ .opening
    decide
  congr 1
  funext f
  rw [State.releaseOpen_eq f changes, self]
  rfl

theorem State.testCured_met (met : s.curedTest p = true) : s.testCured p = s.becomeCured p := if_pos met

theorem State.testCured_not_met (short : ¬s.curedTest p = true) : s.testCured p = s := if_neg short

/-! ### The expiry of each timer (R104 to R110) -/

theorem State.dwellExpiry_due (due : timerDue s.now s.presses[p].dwellT = true) (state : s.presses[p].state = .curing) :
    s.dwellExpiry p = (s.updPress p (fun q => { q with dwellT := none, dwellDone := true })).testCured p :=
  if_pos (by rw [due, state]; rfl)

theorem State.closeExpiry_due (due : timerDue s.now s.presses[p].closeT = true)
    (state : s.presses[p].state = .closing) :
    s.closeExpiry p = (s.updCycle p (fun c => { c with closeTimeout := true })).finalise p .aborted .ready :=
  if_pos (by rw [due, state]; rfl)

theorem State.openExpiry_due (due : timerDue s.now s.presses[p].openT = true) (state : s.presses[p].state = .opening) :
    s.openExpiry p = (s.updPress p (fun q => { q with
      openT := none, cycle := q.cycle.map (fun c => { c with openTimeout := true }) })).raise .openTimeout p.val 0 := by
  rw [State.openExpiry, if_pos (by rw [due, state]; rfl), State.updCycle, State.updPress_updPress]

theorem State.holdExpiry_due (due : timerDue s.now s.presses[p].holdT = true) :
    s.holdExpiry p = (s.updPress p (fun q => { q with hold := none, holdT := none })).raise .openHoldExpired p.val 0 :=
  if_pos due

theorem State.holdExpiry_early (early : timerDue s.now s.presses[p].holdT = false) : s.holdExpiry p = s :=
  if_neg (by rw [early]; decide)

/-- A timer that acts in one state of its press does nothing before its time or in another state (log 6). -/
theorem expiry_idle {due : Bool} {x y : PressState} (idle : due = false ∨ x ≠ y) : ¬(due && x == y) = true := by
  rw [Bool.and_eq_true, beq_iff_eq]
  rintro ⟨now, here⟩
  exact idle.elim (fun early => Bool.false_ne_true (early.symm.trans now)) fun away => away here

/-! ### Finalisation (R115, R136) -/

theorem State.storeRecord_eq (s : State) (n : SlotNo) (x : Record) :
    s.storeRecord n x = ({ s with store := { s.store with
        slots := s.store.slots.set n (.stored { x with number := s.store.recordNo } (freshDelivery s)),
        recordNo := s.store.recordNo + 1 } } : State).raise .recordStored
      (x.press.elim 255 (·.val)) x.disposition.code := by
  obtain ⟨_, _, press, _⟩ := x
  cases press with
  | none => rfl
  | some p => rfl

/-- The press that has given up its cycle: timers cancelled, no held OPEN (R115). -/
def Press.finished (q : Press) (next : PressState) : Press :=
  { q with state := next, slot := none, cycle := none, hold := none, closeT := none, dwellT := none, holdT := none,
           openT := none, ejectT := none }

/-- The store and notices of a finalisation, before the press changes. -/
def State.stored (s : State) (p : PressNo) (n : SlotNo) (c : CycleRecord) (r : RecipeNo) (d : Disposition) : State :=
  s.storeRecord n (s.partRecord p c r d)

/-- Finalisation of a cycle: the record is stored and the press changes state (R115). -/
theorem State.finalise_eq {n : SlotNo} {c : CycleRecord} {r : RecipeNo} (d : Disposition) {next : PressState}
    (carries : s.carries p n c r = true) (changes : s.presses[p].state ≠ next) :
    s.finalise p d next = (s.stored p n c r d).moved p (s.presses[p].finished next) := by
  obtain ⟨slot, cycle, recipe⟩ := State.carries_iff.mp carries
  simp only [State.finalise, slot, cycle, recipe]
  let cut : Press → Press := fun q => { q.cancelTimers with hold := none }
  have record : (s.updPress p cut).partRecord p c r d = s.partRecord p c r d := by
    simp only [State.partRecord, State.updPress_self]
    rfl
  have stored : (s.updPress p cut).storeRecord n ((s.updPress p cut).partRecord p c r d) =
      (s.stored p n c r d).updPress p cut := by rw [record]; rfl
  have same : (s.stored p n c r d).presses[p] = s.presses[p] := rfl
  rw [stored, State.updPress_updPress, State.updPress_setPressState (by rw [same]; exact changes)]
  rfl

/-- What is stored of a cycle is the record of it, under the next number (R115 step 2, R136). -/
theorem State.stored_record (s : State) (p : PressNo) (n : SlotNo) (c : CycleRecord) (r : RecipeNo) (d : Disposition) :
    ∃ x, RecordOf s p c r d x ∧ (s.stored p n c r d).store = { s.store with
      slots := s.store.slots.set n (.stored x (freshDelivery s)), recordNo := s.store.recordNo + 1 } := by
  refine ⟨{ s.partRecord p c r d with number := s.store.recordNo }, ?_, rfl⟩
  constructor
  case flags => simp only [State.partRecord, finalFlags, State.zonesOf, List.any_map, Function.comp_def]
  case cure =>
    refine ⟨rfl, ?_⟩
    simp only [State.partRecord, curePermille, State.zonesOf, List.map_map, Function.comp_def]
  case charge => exact ⟨rfl, rfl, rfl, rfl⟩
  case eject => exact ⟨rfl, rfl, rfl⟩
  all_goals rfl

theorem State.finalise_finalised {n : SlotNo} {c : CycleRecord} {r : RecipeNo} (d : Disposition) {next : PressState}
    (carries : s.carries p n c r = true) (changes : s.presses[p].state ≠ next) :
    Finalised s (s.finalise p d next) p n c r d next := by
  obtain ⟨x, record, store⟩ := s.stored_record p n c r d
  have press : (s.finalise p d next).presses[p] = s.presses[p].finished next := by
    rw [State.finalise_eq d carries changes, State.moved_self]
  have slots : (s.finalise p d next).store = { s.store with
      slots := s.store.slots.set n (.stored x (freshDelivery s)), recordNo := s.store.recordNo + 1 } := by
    rw [State.finalise_eq d carries changes, ← store]
    rfl
  constructor
  case state | gaveUp | timers | rest =>
    rw [press]
    simp [Press.finished, Press.timersOff]
  case record => exact ⟨x, record, by simp [slots]⟩
  case counter => rw [slots]
  case kept => rw [slots]; exact ⟨rfl, rfl⟩
  case otherSlots =>
    intro m other
    rw [slots]
    exact Vector.getElem_set_ne n.isLt m.isLt fun same => other (Fin.ext same.symm)
  case otherPresses =>
    intro q other
    rw [State.finalise_eq d carries changes, State.moved_other _ _ other]
    rfl

/-- A finalisation leaves the halt, and raises RECORD_STORED and PRESS_STATE. -/
theorem State.finalise_halt_notices {n : SlotNo} {c : CycleRecord} {r : RecipeNo} (d : Disposition) {next : PressState}
    (carries : s.carries p n c r = true) (changes : s.presses[p].state ≠ next) :
    (s.finalise p d next).presses[p].halt = s.presses[p].halt ∧
      (s.finalise p d next).notices =
        ((s.raise .recordStored p.val d.code).raise .pressState p.val next.code).notices := by
  rw [State.finalise_eq d carries changes, State.moved_self]
  exact ⟨rfl, rfl⟩

theorem State.updCycle_self (s : State) (p : PressNo) (f : CycleRecord → CycleRecord) :
    (s.updCycle p f).presses[p] = { s.presses[p] with cycle := s.presses[p].cycle.map f } := State.updPress_self ..

theorem State.updCycle_carries {n : SlotNo} {c : CycleRecord} {r : RecipeNo} (f : CycleRecord → CycleRecord)
    (carries : s.carries p n c r = true) : (s.updCycle p f).carries p n (f c) r = true := by
  obtain ⟨slot, cycle, recipe⟩ := State.carries_iff.mp carries
  rw [State.carries_iff, State.updCycle_self]
  exact ⟨slot, congrArg (Option.map f) cycle, recipe⟩

/-- What a finalisation does, it does whatever a mark left in the cycle record before. -/
theorem Finalised.of_updCycle {t : State} {n : SlotNo} {c : CycleRecord} {r : RecipeNo} {d : Disposition}
    {next : PressState} {f : CycleRecord → CycleRecord} (h : Finalised (s.updCycle p f) t p n c r d next) :
    Finalised s t p n c r d next := by
  obtain ⟨x, record, slot⟩ := h.record
  have self := s.updCycle_self p f
  refine { h with record := ⟨x, { record with eject := ?_ }, slot⟩, otherPresses := fun q other => ?_, rest := ?_ }
  · have eject := record.eject
    rwa [self] at eject
  · rw [h.otherPresses q other, State.updCycle, State.updPress_other _ _ other]
  · have rest := h.rest
    rwa [self] at rest

end

/-! ### The obligations -/

theorem exec_dwellTimerExpiry {s : State} (p : PressNo) (high : s.rstn = true) :
    exec (.dwellTimerExpiry p) s = .next (s.dwellExpiry p).kick := event_of_high _ high

theorem exec_closeTimerExpiry {s : State} (p : PressNo) (high : s.rstn = true) :
    exec (.closeTimerExpiry p) s = .next (s.closeExpiry p).kick := event_of_high _ high

theorem exec_openHoldExpired {s : State} (p : PressNo) (high : s.rstn = true) :
    exec (.openHoldExpired p) s = .next (s.holdExpiry p).kick := event_of_high _ high

theorem exec_openTimeout {s : State} (p : PressNo) (high : s.rstn = true) :
    exec (.openTimeout p) s = .next (s.openExpiry p).kick := event_of_high _ high

/-- Settles O25: the test as its three conditions, the event by the hold slot, and the dwell timer's expiry. -/
theorem curedAndDwell : Obligations.CuredAndDwell := by
  intro s p r recipe met q cured
  have test : s.curedTest p = true ↔ met := State.curedTest_iff recipe
  refine ⟨fun short => State.testCured_not_met (mt test.mp short), fun yes empty => ?_, fun f yes held => ?_,
    fun high due state => ?_, fun high idle => ?_⟩
  · rw [State.testCured_met (test.mpr yes), State.becomeCured_eq yes.1, empty]
    rfl
  · rw [State.testCured_met (test.mpr yes), State.becomeCured_eq yes.1, held]
    rfl
  · rw [exec_dwellTimerExpiry p high, State.dwellExpiry_due due state]
    rfl
  · rw [exec_dwellTimerExpiry p high, State.dwellExpiry, if_neg (expiry_idle idle)]

/-- Settles O26: each timer's expiry in its state, and nothing before its time or in another state. -/
theorem pressTimeouts : Obligations.PressTimeouts := by
  refine ⟨fun s p n c r high carries => ⟨fun due state => ?_, fun idle => ?_⟩,
    fun s p high => ⟨fun due => ?_, fun early => ?_, fun due state => ?_, fun idle => ?_⟩⟩
  · let marked := s.updCycle p (fun c => { c with closeTimeout := true })
    have own : marked.carries p n { c with closeTimeout := true } r = true := State.updCycle_carries _ carries
    have self := s.updCycle_self p (fun c => { c with closeTimeout := true })
    have changes : marked.presses[p].state ≠ .ready := by
      rw [self]
      show s.presses[p].state ≠ .ready
      rw [state]
      decide
    have finalised := (State.finalise_finalised .aborted own changes).of_updCycle
    obtain ⟨halt, notices⟩ := State.finalise_halt_notices .aborted own changes
    refine ⟨marked.finalise p .aborted .ready, ?_, ?_, finalised, ?_, notices⟩
    · rw [exec_closeTimerExpiry p high, State.closeExpiry_due due state]
    · exact ((s.updCycle_only p _).widen rfl).trans (State.finalise_only _ _ _ _)
    · rw [halt, self]
  · rw [exec_closeTimerExpiry p high, State.closeExpiry, if_neg (expiry_idle idle)]
  · rw [exec_openHoldExpired p high, State.holdExpiry_due due]
    rfl
  · rw [exec_openHoldExpired p high, State.holdExpiry_early early]
  · rw [exec_openTimeout p high, State.openExpiry_due due state]
    rfl
  · rw [exec_openTimeout p high, State.openExpiry, if_neg (expiry_idle idle)]

end Sys2Proof.Machine

/-! ## Laws of the guard filter (R112, R118, R119) -/

namespace Sys2Proof.Machine

open Sys2Proof

/-! ### Folds over a list in which an element stands once -/

/-- A fold that comes by one element of its list once: before it what its step starts from holds, after it what the
step makes. -/
theorem foldl_once {σ α : Type} [DecidableEq α] {g : σ → α → σ} {P Q : σ → Prop} {a : α}
    (before : ∀ s b, b ≠ a → P s → P (g s b)) (hit : ∀ s, P s → Q (g s a))
    (after : ∀ s b, b ≠ a → Q s → Q (g s b)) :
    ∀ (l : List α) (s : σ), l.Nodup → a ∈ l → P s → Q (l.foldl g s) := by
  have rest : ∀ (l : List α) (s : σ), a ∉ l → Q s → Q (l.foldl g s) := by
    intro l s out holds
    induction l generalizing s with
    | nil => exact holds
    | cons b bs ih =>
      rw [List.mem_cons, not_or] at out
      exact ih _ out.2 (after s b (Ne.symm out.1) holds)
  intro l s once mem holds
  induction l generalizing s with
  | nil => simp at mem
  | cons b bs ih =>
    rw [List.nodup_cons] at once
    by_cases here : b = a
    · subst here
      exact rest bs _ once.1 (hit s holds)
    · exact ih _ once.2 ((List.mem_cons.mp mem).resolve_left (Ne.symm here)) (before s b here holds)

theorem allPresses_nodup : allPresses.Nodup := by decide

section
variable (s : State) (n : Fin 4) (g : GuardInput)

@[simp] theorem State.setGuard_self : (s.setGuard n g).guard[n] = g := by simp [State.setGuard]

variable {n} in
theorem State.setGuard_other {m : Fin 4} (other : m ≠ n) : (s.setGuard n g).guard[m] = s.guard[m] :=
  Vector.getElem_set_ne n.isLt m.isLt fun same => other (Fin.ext same.symm)

/-! ### What an opening does to a press neither reads nor changes the filter -/

/-- The state with other levels at the pins (R118). -/
def State.withPins (levels : BitVec 4) : State := { s with gdLevels := levels }

/-- The state with another guard filter and other levels at the pins. -/
def State.withFilter (v : Vector GuardInput 4) (levels : BitVec 4) : State := { s with guard := v, gdLevels := levels }

section
variable (v : Vector GuardInput 4) (levels : BitVec 4) (p : PressNo)

theorem State.setPressState_withFilter (st : PressState) :
    (s.withFilter v levels).setPressState p st = (s.setPressState p st).withFilter v levels := by
  by_cases same : s.presses[p].state = st
  · rw [State.setPressState_same same, State.setPressState_same (s := s.withFilter v levels) same]
  · rw [State.setPressState_moved same, State.setPressState_moved (s := s.withFilter v levels) same]
    rfl

theorem State.orderHalt_withFilter : (s.withFilter v levels).orderHalt p = (s.orderHalt p).withFilter v levels := by
  have stands : (s.withFilter v levels).ejectStands p = s.ejectStands p := rfl
  have presses : (s.withFilter v levels).presses = s.presses := rfl
  rw [State.orderHalt, State.orderHalt, stands, presses]
  split
  · rfl
  · split
    · rfl
    · rfl

theorem State.enterStuck_withFilter (c : StuckCause) :
    (s.withFilter v levels).enterStuck p c = (s.enterStuck p c).withFilter v levels := by
  let t := (s.updPress p (fun q => { q with ejectT := none, debounce := 0, stuckCause := some c })).updCycle p c.mark
  show (((t.withFilter v levels).orderHalt p).setPressState p .stuck).raise .ejectStuck p.val c.code = _
  rw [State.orderHalt_withFilter, State.setPressState_withFilter]
  rfl

theorem State.guardOpening_withFilter :
    (s.withFilter v levels).guardOpening p = (s.guardOpening p).withFilter v levels := by
  have state : (s.withFilter v levels).presses[p].state = s.presses[p].state := rfl
  simp only [State.guardOpening, state]
  cases s.presses[p].state with
  | ejecting => exact State.enterStuck_withFilter s v levels p .guard
  | idle | ready | opened | closing | curing | cured | opening | stuck | unloading => rfl

end

theorem State.guardOpening_guard (p : PressNo) : (s.guardOpening p).guard = s.guard :=
  (s.guardOpening_only p).guard rfl

theorem State.guardOpening_withPins (levels : BitVec 4) (p : PressNo) :
    (s.withPins levels).guardOpening p = (s.guardOpening p).withPins levels := by
  have filter : s.withPins levels = s.withFilter s.guard levels := rfl
  rw [filter, State.guardOpening_withFilter, ← State.guardOpening_guard s p]
  rfl

theorem State.guardOpening_setGuard (p : PressNo) :
    (s.setGuard n g).guardOpening p = (s.guardOpening p).setGuard n g := by
  have filter : s.setGuard n g = s.withFilter (s.guard.set n g) s.gdLevels := rfl
  rw [filter, State.guardOpening_withFilter, State.setGuard, State.guardOpening_guard,
    ← (s.guardOpening_only p).gdLevels rfl]
  rfl
end

/-! ### The acceptance of a level (R119) -/

section
variable {s : State} {n : Fin 4}

/-- The level that a due acceptance replaces by the other (R118). -/
def GuardInput.acceptedOther (x : GuardInput) : GuardInput := { accepted := x.accepted.other, run := 0, due := false }

theorem State.acceptGuard_early (early : s.guard[n].due = false) : s.acceptGuard n = s := if_neg (by rw [early]; decide)

theorem State.acceptGuard_due (due : s.guard[n].due = true) :
    s.acceptGuard n =
      if s.tables.pt[n].guardUsed = true ∧ s.guard[n].acceptedOther.accepted = .open then
        (s.setGuard n s.guard[n].acceptedOther).guardOpening n
      else s.setGuard n s.guard[n].acceptedOther := by
  have opens : (s.setGuard n s.guard[n].acceptedOther).guardOpen n = true ↔
      s.tables.pt[n].guardUsed = true ∧ s.guard[n].acceptedOther.accepted = .open := by
    rw [State.guardOpen_iff, State.guardIsOpen, State.setGuard_self]
    rfl
  rw [State.acceptGuard, if_pos due, ← if_congr opens rfl rfl]
  rfl

theorem State.acceptGuard_guard (s : State) (n : Fin 4) : ∃ x : GuardInput, x.due = false ∧
    (s.acceptGuard n).guard = s.guard.set n x := by
  cases due : s.guard[n].due with
  | false =>
    refine ⟨s.guard[n], due, ?_⟩
    rw [State.acceptGuard_early due]
    exact (Vector.set_getElem_self ..).symm
  | true =>
    refine ⟨s.guard[n].acceptedOther, rfl, ?_⟩
    rw [State.acceptGuard_due due]
    split
    · exact State.guardOpening_guard ..
    · rfl

/-- After its acceptance nothing more is due of an input. -/
theorem State.acceptGuard_settles (s : State) (n : Fin 4) : (s.acceptGuard n).guard[n].due = false := by
  obtain ⟨x, settled, guard⟩ := s.acceptGuard_guard n
  rw [guard]
  simpa using settled

theorem State.acceptGuard_other {m : Fin 4} (other : m ≠ n) : (s.acceptGuard n).guard[m] = s.guard[m] := by
  obtain ⟨x, -, guard⟩ := s.acceptGuard_guard n
  rw [guard]
  exact Vector.getElem_set_ne n.isLt m.isLt fun same => other (Fin.ext same.symm)

theorem State.setGuard_comm {m : Fin 4} (other : m ≠ n) (g h : GuardInput) :
    (s.setGuard n g).setGuard m h = (s.setGuard m h).setGuard n g := by
  refine congrArg (fun v => ({ s with guard := v } : State)) ?_
  exact Vector.set_comm g h fun same => other (Fin.ext same.symm)

/-- An acceptance and a change of another input may change places. -/
theorem State.acceptGuard_setGuard {m : Fin 4} (other : m ≠ n) (g : GuardInput) :
    (s.setGuard n g).acceptGuard m = (s.acceptGuard m).setGuard n g := by
  have own : (s.setGuard n g).guard[m] = s.guard[m] := s.setGuard_other g other
  have used : (s.setGuard n g).tables = s.tables := rfl
  cases due : s.guard[m].due with
  | false => rw [State.acceptGuard_early due, State.acceptGuard_early (by rw [own, due])]
  | true =>
    rw [State.acceptGuard_due due, State.acceptGuard_due (by rw [own, due]), own, used, State.setGuard_comm other]
    split
    · rw [State.guardOpening_setGuard]
    · rfl

end

/-! ### The sampling (R118) -/

theorem State.acceptGuard_withPins (levels : BitVec 4) (s : State) (n : Fin 4) :
    (s.withPins levels).acceptGuard n = (s.acceptGuard n).withPins levels := by
  cases due : s.guard[n].due with
  | false => rw [State.acceptGuard_early due, State.acceptGuard_early (s := s.withPins levels) due]
  | true =>
    have guard : (s.withPins levels).guard = s.guard := rfl
    have tables : (s.withPins levels).tables = s.tables := rfl
    have set (g : GuardInput) : (s.withPins levels).setGuard n g = (s.setGuard n g).withPins levels := rfl
    rw [State.acceptGuard_due due, State.acceptGuard_due (s := s.withPins levels) due, guard, tables, set]
    split
    · exact State.guardOpening_withPins ..
    · rfl

/-- One sample of an input with no acceptance due. -/
def State.samplePlain (levels : BitVec 4) (s : State) (n : Fin 4) : State :=
  s.setGuard n (s.guard[n].sample (levelOfPin (levels.getLsbD n)))

section
variable (levels : BitVec 4) (s : State)

theorem State.sampleGuard_eq (n : Fin 4) : s.sampleGuard levels n = State.samplePlain levels (s.acceptGuard n) n := rfl

theorem State.acceptAll_samplePlain {n : Fin 4} : ∀ (l : List (Fin 4)) (s : State), n ∉ l →
    l.foldl State.acceptGuard (s.samplePlain levels n) = State.samplePlain levels (l.foldl State.acceptGuard s) n := by
  intro l
  induction l with
  | nil => exact fun s _ => rfl
  | cons m ms ih =>
    intro s out
    rw [List.mem_cons, not_or] at out
    obtain ⟨other, out⟩ := out
    have first : (s.samplePlain levels n).acceptGuard m = (s.acceptGuard m).samplePlain levels n := by
      rw [State.samplePlain, State.acceptGuard_setGuard (Ne.symm other), State.samplePlain,
        State.acceptGuard_other other]
    rw [List.foldl_cons, first, ih _ out, List.foldl_cons]

/-- Sampling input by input is taking every acceptance and then sampling every input (log 9). -/
theorem sampleAll_eq : ∀ (l : List (Fin 4)) (s : State), l.Nodup →
    l.foldl (State.sampleGuard levels) s = l.foldl (State.samplePlain levels) (l.foldl State.acceptGuard s) := by
  intro l
  induction l with
  | nil => exact fun s _ => rfl
  | cons n ns ih =>
    intro s once
    rw [List.nodup_cons] at once
    rw [List.foldl_cons, ih _ once.2, State.sampleGuard_eq, State.acceptAll_samplePlain levels ns _ once.1,
      List.foldl_cons, List.foldl_cons]

theorem State.acceptAll_settles (n : Fin 4) : (allPresses.foldl State.acceptGuard s).guard[n].due = false :=
  foldl_once (P := fun _ => True) (Q := fun t => t.guard[n].due = false) (fun _ _ _ _ => trivial)
    (fun t _ => t.acceptGuard_settles n)
    (fun t m other settled => (congrArg GuardInput.due (State.acceptGuard_other (Ne.symm other))).trans settled)
    allPresses s allPresses_nodup (mem_allPresses n) trivial

theorem State.acceptAll_settled {s : State} (settled : ∀ n : Fin 4, s.guard[n].due = false) (l : List (Fin 4)) :
    l.foldl State.acceptGuard s = s :=
  List.foldlRecOn (motive := fun t => t = s) l State.acceptGuard rfl fun t same n _ => by
    rw [same, State.acceptGuard_early (settled n)]

theorem State.acceptAll_withPins (l : List (Fin 4)) :
    l.foldl State.acceptGuard (s.withPins levels) = (l.foldl State.acceptGuard s).withPins levels := by
  induction l generalizing s with
  | nil => rfl
  | cons n ns ih => rw [List.foldl_cons, State.acceptGuard_withPins, ih, List.foldl_cons]

theorem State.sampleGuards_eq : s.sampleGuards levels =
    allPresses.foldl (State.samplePlain levels) ((allPresses.foldl State.acceptGuard s).withPins levels) := by
  show allPresses.foldl (State.sampleGuard levels) (s.withPins levels) = _
  rw [sampleAll_eq levels _ _ allPresses_nodup, State.acceptAll_withPins]

theorem State.sampleGuards_settled (settled : ∀ n : Fin 4, s.guard[n].due = false) :
    s.sampleGuards levels = allPresses.foldl (State.samplePlain levels) (s.withPins levels) := by
  rw [State.sampleGuards_eq, State.acceptAll_settled settled]

theorem State.sampleAll_guard (n : Fin 4) : (allPresses.foldl (State.samplePlain levels) s).guard[n] =
    s.guard[n].sample (levelOfPin (levels.getLsbD n)) :=
  foldl_once (P := fun t => t.guard[n] = s.guard[n]) (Q := fun t => t.guard[n] = s.guard[n].sample _)
    (fun t _ other same => (t.setGuard_other _ (Ne.symm other)).trans same)
    (fun t same => (t.setGuard_self n _).trans (by rw [same]))
    (fun t _ other sampled => (t.setGuard_other _ (Ne.symm other)).trans sampled)
    allPresses s allPresses_nodup (mem_allPresses n) rfl

theorem State.acceptGuard_only (n : Fin 4) :
    Only { guard := true, line := true, presses := true, notices := true } s (s.acceptGuard n) := by
  cases due : s.guard[n].due with
  | false =>
    rw [State.acceptGuard_early due]
    exact Only.refl _ s
  | true =>
    have set := (s.setGuard_only n s.guard[n].acceptedOther).widen
      (d := { guard := true, line := true, presses := true, notices := true }) rfl
    rw [State.acceptGuard_due due]
    exact Only.ite (set.after (State.guardOpening_only _ n) rfl) set

end

section
variable {x : GuardInput} {l : GuardLevel}

theorem GuardInput.sample_same (same : l = x.accepted) : x.sample l = { x with run := 0 } :=
  if_pos (beq_iff_eq.mpr same)

theorem GuardInput.sample_counted (differs : l ≠ x.accepted) (early : x.run ≠ 2) :
    x.sample l = { x with run := x.run + 1 } := by
  rw [GuardInput.sample, if_neg (mt beq_iff_eq.mp differs), if_neg (by simpa using early)]

theorem GuardInput.sample_third (differs : l ≠ x.accepted) (third : x.run = 2) :
    x.sample l = { x with run := 0, due := true } := by
  rw [GuardInput.sample, if_neg (mt beq_iff_eq.mp differs), if_pos (by rw [third]; rfl)]

end

/-! ### The opening by the state of its press (Table 70) -/

section
variable {s : State} {n : Fin 4}

theorem State.guardOpening_none (state : s.presses[n].state = .idle ∨ s.presses[n].state = .ready ∨
    s.presses[n].state = .opened) : s.guardOpening n = s := by
  obtain state | state | state := state <;> simp only [State.guardOpening, state]

theorem State.guardOpening_ejecting (state : s.presses[n].state = .ejecting) :
    s.guardOpening n = s.enterStuck n .guard := by
  simp only [State.guardOpening, state]

theorem State.guardOpening_marks (state : s.presses[n].state = .closing ∨ s.presses[n].state = .curing ∨
    s.presses[n].state = .cured ∨ s.presses[n].state = .opening ∨ s.presses[n].state = .stuck ∨
    s.presses[n].state = .unloading) :
    s.guardOpening n = s.updCycle n (fun c => { c with guardOpened := true }) := by
  obtain state | state | state | state | state | state := state <;> simp only [State.guardOpening, state]

theorem exec_guardSample (levels : BitVec 4) (high : s.rstn = true) :
    exec (.guardSample levels) s = .next (s.sampleGuards levels).kick :=
  event_of_high (fun s => s.sampleGuards levels) high

theorem exec_guardLevelAccepted (n : Fin 4) (high : s.rstn = true) :
    exec (.guardLevelAccepted n) s = .next (s.acceptGuard n).kick :=
  event_of_high (fun s => s.acceptGuard n) high

/-- An accepted CLOSED ends there. -/
theorem State.acceptGuard_closes (due : s.guard[n].due = true) (was : s.guard[n].accepted = .open) :
    s.acceptGuard n = s.setGuard n { accepted := .closed, run := 0, due := false } := by
  have other : s.guard[n].acceptedOther = { accepted := .closed, run := 0, due := false } := by
    rw [GuardInput.acceptedOther, was, GuardLevel.other]
  rw [State.acceptGuard_due due, other, if_neg (by simp)]

/-- An accepted OPEN is an opening on a used guard. -/
theorem State.acceptGuard_opens (due : s.guard[n].due = true) (was : s.guard[n].accepted = .closed) :
    s.acceptGuard n = if s.tables.pt[n].guardUsed = true
      then (s.setGuard n { accepted := .open, run := 0, due := false }).guardOpening n
      else s.setGuard n { accepted := .open, run := 0, due := false } := by
  have other : s.guard[n].acceptedOther = { accepted := .open, run := 0, due := false } := by
    rw [GuardInput.acceptedOther, was, GuardLevel.other]
  rw [State.acceptGuard_due due, other]
  simp only [and_true]

end

/-- Settles O28: the sampling as acceptances and then samples, each sample by its three cases, and the acceptance by
the guard's use and the state of the press. -/
theorem guardInputs : Obligations.GuardInputs := by
  refine ⟨fun s levels high => ⟨?_, fun settled => ?_⟩, fun s n high => ⟨fun early => ?_, fun due was => ?_,
    fun due was => ⟨fun away => ?_, fun used ejecting => ?_, fun used marked => ?_⟩⟩⟩
  · have accepted := (Only.foldl State.acceptGuard_only allPresses s).rstn rfl
    rw [exec_guardSample levels high, exec_guardSample levels (accepted.trans high),
      State.sampleGuards_settled levels _ s.acceptAll_settles, State.sampleGuards_eq]
  · refine ⟨s.sampleGuards levels, exec_guardSample levels high, ?_⟩
    rw [State.sampleGuards_settled levels s settled]
    have samples := Only.foldl (f := State.samplePlain levels) (fun t n => t.setGuard_only n _) allPresses
      (s.withPins levels)
    have pins : Only { gdLevels := true } s (s.withPins levels) := by constructor <;> simp [State.withPins]
    refine ⟨pins.andThen samples rfl, samples.gdLevels rfl, fun n => ?_⟩
    rw [State.sampleAll_guard]
    exact ⟨GuardInput.sample_same, GuardInput.sample_counted, GuardInput.sample_third⟩
  · rw [exec_guardLevelAccepted n high, State.acceptGuard_early early]
  · rw [exec_guardLevelAccepted n high, State.acceptGuard_closes due was]
    rfl
  · rw [exec_guardLevelAccepted n high, State.acceptGuard_opens due was]
    obtain unused | state := away
    · rw [if_neg (by rw [unused]; decide)]
      rfl
    · rw [State.guardOpening_none (s := s.setGuard n _) state, ite_self]
      rfl
  · rw [exec_guardLevelAccepted n high, State.acceptGuard_opens due was, if_pos used,
      State.guardOpening_ejecting (s := s.setGuard n _) ejecting]
    rfl
  · rw [exec_guardLevelAccepted n high, State.acceptGuard_opens due was, if_pos used,
      State.guardOpening_marks (s := s.setGuard n _) marked]
    rfl

end Sys2Proof.Machine

/-! ## Laws of the way out of RUN (R116, R130, R163, R164) -/

namespace Sys2Proof.Machine

open Sys2Proof

/-! ### Raising notices leaves the enable mask (R166, R169) -/

theorem NoticeUnit.place_mask {n m : NoticeUnit} {it : Notice} (placed : n.place it = some m) : m.mask = n.mask := by
  unfold NoticeUnit.place at placed
  split at placed
  next => rw [← Option.some.inj placed]
  next =>
    split at placed
    next => rw [← Option.some.inj placed]
    next =>
      split at placed
      next => rw [← Option.some.inj placed]
      next => simp at placed

theorem NoticeUnit.raise_mask (n : NoticeUnit) (it : Notice) : (n.raise it).mask = n.mask := by
  unfold NoticeUnit.raise
  split
  next m placed => exact NoticeUnit.place_mask placed
  next =>
    split
    next =>
      dsimp only
      split
      next m placed => exact NoticeUnit.place_mask (n := n.drop.markHalf 11) placed
      next => rfl
    next => rfl

section
variable (s : State)

@[simp] theorem State.raise_mask (k : NoticeKind) (a b : Nat) : (s.raise k a b).notices.mask = s.notices.mask :=
  NoticeUnit.raise_mask ..

@[simp] theorem State.count_mask (c : Fin 12) : (s.count c).notices.mask = s.notices.mask := by
  unfold State.count
  split
  · exact State.raise_mask ..
  · rfl

@[simp] theorem State.moved_mask (p : PressNo) (q : Press) : (s.moved p q).notices.mask = s.notices.mask :=
  State.raise_mask ..

theorem State.setPressState_mask (p : PressNo) (x : PressState) :
    (s.setPressState p x).notices.mask = s.notices.mask := by
  unfold State.setPressState
  split
  · rfl
  · exact State.raise_mask ..

theorem State.weighGate_mask : s.weighGate.notices.mask = s.notices.mask := by
  unfold State.weighGate State.weighEnterOff
  split
  · split
    · rfl
    · dsimp only
      split
      · exact State.count_mask ..
      · rfl
  · split
    · rfl
    · rfl

theorem State.weighMove_recipe (x : WeighState) : (s.weighMove x).weigh.recipe = s.weigh.recipe := rfl

theorem State.weighGate_recipe : s.weighGate.weigh.recipe = s.weigh.recipe := by
  unfold State.weighGate State.weighEnterOff
  split
  · split
    · rfl
    · dsimp only
      split
      · rw [(State.count_only _ _).weigh rfl, State.weighMove_recipe]
      · rfl
  · split
    · rfl
    · rfl

/-- In CONFIG the weigh station is OFF (R76). -/
theorem State.weighGate_off (config : s.mode = .config) : s.weighGate.weigh.state = .off := by
  have holds : s.weighOffHolds = true := by simp [State.weighOffHolds, config]
  rw [State.weighGate, if_pos holds]
  split
  next off => exact beq_iff_eq.mp off
  next =>
    unfold State.weighEnterOff
    dsimp only
    split
    · rw [(State.count_only _ _).weigh rfl]
      rfl
    · rfl

theorem State.zoneStale_mask (z : ZoneNo) : (s.zoneStale z).notices.mask = s.notices.mask := by
  have hold (t : State) (n : Nat) (x : ZoneState) : (t.zoneHold z n x).notices = t.notices :=
    (t.zoneHold_only z n x).notices rfl
  unfold State.zoneStale
  dsimp only
  split
  · split <;> simp only [hold, State.raise_mask]
  · split <;> simp only [hold, State.raise_mask]
  · rw [hold]
  · rfl
  · rfl

theorem State.zoneRegulate_mask (z : ZoneNo) : (s.zoneRegulate z).notices.mask = s.notices.mask := by
  have computed (t : State) : (t.zonePi z).notices = t.notices := (t.zonePi_only z).notices rfl
  unfold State.zoneRegulate
  split
  · rw [computed]
  · rw [computed, State.raise_mask]
  · rw [computed, State.raise_mask]
  · rfl
  · rfl

theorem State.periodZone_mask (z : ZoneNo) : (s.periodZone z).notices.mask = s.notices.mask := by
  have fresh : ((s.zoneRegulate z).zoneCure z).notices.mask = s.notices.mask := by
    rw [(State.zoneCure_only _ z).notices rfl, State.zoneRegulate_mask]
  have stale : ((s.zoneStale z).markStale z).notices.mask = s.notices.mask := by
    rw [(State.markStale_only _ z).notices rfl, State.zoneStale_mask]
  unfold State.periodZone
  split
  · rfl
  · rfl
  all_goals
    split
    · exact fresh
    · exact stale

theorem State.applyWrite_mask (w : Write) : (s.applyWrite w).notices.mask = s.notices.mask := by
  cases w with
  | cht i e =>
    rw [State.applyWrite, State.applyCht_eq, State.weighGate_mask, (s.rebound_only i e).notices rfl]
  | lin i c => rw [State.applyWrite, (s.applyLin_only i c).notices rfl]
  | zt z e => rw [State.applyWrite, (s.applyZt_only z e).notices rfl]
  | pt p e => rw [State.applyWrite, (s.applyPt_only p e).notices rfl]
  | sys y => rw [State.applyWrite, (s.applySys_only y).notices rfl]
  | acc i e => rw [State.applyWrite, (s.applyAcc_only i e).notices rfl]
  | crt i r | rt i r | gt i e => rfl

theorem State.applyWrite_recipe (w : Write) : (s.applyWrite w).weigh.recipe = s.weigh.recipe := by
  cases w with
  | cht i e =>
    rw [State.applyWrite, State.applyCht_eq, State.weighGate_recipe, (s.rebound_only i e).weigh rfl]
  | lin i c => rw [State.applyWrite, (s.applyLin_only i c).weigh rfl]
  | zt z e => rw [State.applyWrite, (s.applyZt_only z e).weigh rfl]
  | pt p e => rw [State.applyWrite, (s.applyPt_only p e).weigh rfl]
  | sys y => rw [State.applyWrite, (s.applySys_only y).weigh rfl]
  | acc i e => rw [State.applyWrite, (s.applyAcc_only i e).weigh rfl]
  | crt i r | rt i r | gt i e => rfl

theorem State.applyRun_mask_recipe (l : List Write) :
    (s.applyRun l).notices.mask = s.notices.mask ∧ (s.applyRun l).weigh.recipe = s.weigh.recipe := by
  refine List.foldlRecOn
    (motive := fun t : State => t.notices.mask = s.notices.mask ∧ t.weigh.recipe = s.weigh.recipe)
    l _ ⟨rfl, rfl⟩ fun t ⟨mask, recipe⟩ w _ => ⟨?_, ?_⟩
  · exact (t.applyWrite_mask w).trans mask
  · exact (t.applyWrite_recipe w).trans recipe

/-! ### The control period that is due, and then every posted write (R158, R163; log 8) -/

theorem applyWhile_eq (f : Write → Bool) (l : List Write) : applyWhile f l s = s.applyRun (l.takeWhile f) := by
  induction l generalizing s with
  | nil => rfl
  | cons w ws ih =>
    cases takes : f w with
    | true =>
      rw [applyWhile, if_pos takes, ih, List.takeWhile_cons_of_pos takes]
      rfl
    | false =>
      rw [applyWhile, if_neg (by rw [takes]; decide), List.takeWhile_cons_of_neg (by rw [takes]; decide)]
      rfl

theorem State.applyAllPosted_eq : s.applyAllPosted = s.applyRun s.agent.posted := by
  rw [State.applyAllPosted, applyWhile_eq, List.takeWhile_eq_self_iff.mpr fun _ _ => rfl]

/-- A period's end applies the first of the posted writes, as one run (R40, R158). -/
theorem State.applyPeriodEnd_run : ∃ l rest, s.agent.posted = l ++ rest ∧ s.applyPeriodEnd = s.applyRun l := by
  let heat := s.agent.posted.takeWhile Write.isHeat
  let left := s.agent.posted.dropWhile Write.isHeat
  have queue : s.agent.posted = heat ++ left := List.takeWhile_append_dropWhile.symm
  have posted : (s.applyRun heat).agent.posted = left := by
    rw [State.applyRun_posted]
    conv_lhs => rw [queue]
    exact List.drop_left
  refine ⟨heat ++ left.takeWhile Write.isCht, left.dropWhile Write.isCht, ?_, ?_⟩
  · rw [List.append_assoc, List.takeWhile_append_dropWhile]
    exact queue
  · rw [State.applyPeriodEnd, applyWhile_eq, State.applyChtHead, posted, applyWhile_eq, State.applyRun_append]

/-- The work of a control period before its applies: the zones, then the CURED tests (R60). -/
def State.periodWork : State :=
  allPresses.foldl State.testCured (allZones.foldl State.periodZone { s with periodDue := false })

/-- The work of a control period, where one is due. -/
def State.workDue : State := if s.periodDue then s.periodWork else s

theorem State.periodWork_only :
    Only { zones := true, presses := true, line := true, notices := true, periodDue := true } s s.periodWork := by
  have taken : Only { zones := true, presses := true, line := true, notices := true, periodDue := true } s
      { s with periodDue := false } := by constructor <;> simp
  exact (taken.after (Only.foldl State.periodZone_only allZones _) rfl).after
    (Only.foldl State.testCured_only allPresses _) rfl

theorem State.workDue_only :
    Only { zones := true, presses := true, line := true, notices := true, periodDue := true } s s.workDue :=
  Only.ite s.periodWork_only (Only.refl _ s)

/-- Whatever a period that is due applies first, every posted write is applied, in order. -/
theorem State.settlePeriod_applyAllPosted : s.settlePeriod.applyAllPosted = s.workDue.applyRun s.agent.posted := by
  rw [State.settlePeriod, State.workDue]
  by_cases due : s.periodDue = true
  · rw [if_pos due, if_pos due]
    obtain ⟨l, rest, queue, run⟩ := s.periodWork.applyPeriodEnd_run
    have period : s.runPeriod = s.periodWork.applyRun l := run
    rw [period, State.applyAllPosted_eq, State.applyRun_posted, queue, List.drop_left, ← State.applyRun_append, ← queue,
      s.periodWork_only.agent rfl]
  · rw [if_neg due, if_neg due, State.applyAllPosted_eq]

end

/-! ### What every stage of the way out of RUN keeps -/

/-- The press that has left its cycle, or had none, and stands in IDLE without recipe: R116, its halt apart. -/
def Press.idled (q : Press) : Press :=
  { q with state := .idle, recipe := none, slot := none, hold := none, closeT := none, dwellT := none, holdT := none,
           openT := none, ejectT := none, cycle := if q.state.inCycle = true then none else q.cycle }

/-- A place of the DOWN buffer, whatever halt waits for it. -/
def DownItem.unawaited (d : DownItem) : DownItem := { d with awaitedBy := none }

/-- What is kept by every stage of MODE STOP and of RESTART up to the change of the mode: of each press what R116
leaves of it, its halt apart; the line but for held-back halts and released OPENs; the two other counters of the store;
the enable mask and the station's recipe. -/
structure Stopping (s t : State) : Prop where
  press : ∀ p : PressNo, { t.presses[p].idled with halt := s.presses[p].halt } = s.presses[p].idled
  line : { t.line with down := s.line.down, release := s.line.release } = s.line
  down : t.line.down.map DownItem.unawaited = s.line.down.map DownItem.unawaited
  labels : t.line.release.filter (fun x => x.kind == .label) = s.line.release.filter (fun x => x.kind == .label)
  serial : t.store.serial = s.store.serial
  chargeNo : t.store.chargeNo = s.store.chargeNo
  mask : t.notices.mask = s.notices.mask
  recipe : t.weigh.recipe = s.weigh.recipe

theorem Stopping.hold {s t : State} (h : Stopping s t) : t.line.hold = s.line.hold := (congrArg Line.hold h.line :)

theorem Stopping.refl (s : State) : Stopping s s := ⟨fun _ => rfl, rfl, rfl, rfl, rfl, rfl, rfl, rfl⟩

theorem Stopping.trans {s t u : State} (h : Stopping s t) (k : Stopping t u) : Stopping s u where
  press p := by rw [← h.press p, ← k.press p]
  line := by rw [← h.line, ← k.line]
  down := k.down.trans h.down
  labels := k.labels.trans h.labels
  serial := k.serial.trans h.serial
  chargeNo := k.chargeNo.trans h.chargeNo
  mask := k.mask.trans h.mask
  recipe := k.recipe.trans h.recipe

/-- A stage that changes neither press, line nor store. -/
theorem Stopping.of_only {c : Footprint} {s t : State} (h : Only c s t)
    (apart : (c.presses || c.line || c.store) = false)
    (mask : t.notices.mask = s.notices.mask) (recipe : t.weigh.recipe = s.weigh.recipe) : Stopping s t := by
  simp only [Bool.or_eq_false_iff] at apart
  obtain ⟨⟨presses, line⟩, store⟩ := apart
  have presses := h.presses presses
  have line := h.line line
  have store := h.store store
  exact ⟨fun p => by rw [presses]; rfl, by rw [line], by rw [line], by rw [line], by rw [store], by rw [store], mask,
    recipe⟩

theorem Stopping.foldl {α : Type} {g : State → α → State} (one : ∀ s x, Stopping s (g s x)) (l : List α) (s : State) :
    Stopping s (l.foldl g s) :=
  List.foldlRecOn (motive := fun t => Stopping s t) l g (Stopping.refl s) fun t h x _ => h.trans (one t x)

theorem ejectStands_of_down {s t : State}
    (down : t.line.down.map DownItem.unawaited = s.line.down.map DownItem.unawaited) (p : PressNo) :
    t.ejectStands p = s.ejectStands p := by
  have through (u : State) :
      u.ejectStands p = (u.line.down.map DownItem.unawaited).any (fun d => d.strokeOf == some p) := by
    rw [List.any_map]
    rfl
  rw [through, through, down]

/-! ### The period's work and the posted writes -/

/-- A press whose cycle has gone on, or whose items are unchanged: it still has what a finalisation needs. -/
structure Press.SameCycle (q x : Press) : Prop where
  inCycle : x.state.inCycle = q.state.inCycle
  ejecting : x.state = .ejecting ↔ q.state = .ejecting
  slot : x.slot = q.slot
  recipe : x.recipe = q.recipe
  cycle : x.cycle.isSome = q.cycle.isSome
  idled : x.idled = q.idled

theorem Press.SameCycle.refl (q : Press) : q.SameCycle q := ⟨rfl, .rfl, rfl, rfl, rfl, rfl⟩

theorem Press.SameCycle.trans {q x y : Press} (h : q.SameCycle x) (k : x.SameCycle y) : q.SameCycle y :=
  ⟨k.inCycle.trans h.inCycle, k.ejecting.trans h.ejecting, k.slot.trans h.slot, k.recipe.trans h.recipe,
    k.cycle.trans h.cycle, k.idled.trans h.idled⟩

theorem Press.SameCycle.halt {q x : Press} (h : q.SameCycle x) : x.halt = q.halt :=
  (congrArg Press.halt h.idled :)

theorem Press.cured_sameCycle {q : Press} (curing : q.state = .curing) (now : Time) : q.SameCycle (q.cured now) := by
  obtain ⟨state, _, _, cycle⟩ := q
  subst curing
  exact ⟨rfl, by simp [Press.cured], rfl, rfl, Option.isSome_map, rfl⟩

theorem Press.released_sameCycle {q : Press} (cured : q.state = .cured) (now : Time) (openMs : Nat) :
    q.SameCycle (q.released now openMs) := by
  obtain ⟨state⟩ := q
  subst cured
  exact ⟨rfl, by simp [Press.released], rfl, rfl, rfl, rfl⟩

/-- A stage in which cycles only go on. -/
structure CyclesGoOn (s t : State) : Prop where
  press : ∀ p : PressNo, s.presses[p].SameCycle t.presses[p]
  stopping : Stopping s t

theorem CyclesGoOn.refl (s : State) : CyclesGoOn s s := ⟨fun _ => Press.SameCycle.refl _, Stopping.refl s⟩

theorem CyclesGoOn.trans {s t u : State} (h : CyclesGoOn s t) (k : CyclesGoOn t u) : CyclesGoOn s u :=
  ⟨fun p => (h.press p).trans (k.press p), h.stopping.trans k.stopping⟩

theorem CyclesGoOn.of_only {c : Footprint} {s t : State} (h : Only c s t)
    (apart : (c.presses || c.line || c.store) = false)
    (mask : t.notices.mask = s.notices.mask) (recipe : t.weigh.recipe = s.weigh.recipe) : CyclesGoOn s t := by
  refine ⟨fun p => ?_, Stopping.of_only h apart mask recipe⟩
  simp only [Bool.or_eq_false_iff] at apart
  rw [h.presses apart.1.1]
  exact Press.SameCycle.refl _

theorem CyclesGoOn.foldl {α : Type} {g : State → α → State} (one : ∀ s x, CyclesGoOn s (g s x)) (l : List α)
    (s : State) : CyclesGoOn s (l.foldl g s) :=
  List.foldlRecOn (motive := fun t => CyclesGoOn s t) l g (CyclesGoOn.refl s) fun t h x _ => h.trans (one t x)

theorem CyclesGoOn.moved {s : State} {p : PressNo} {q : Press} (same : s.presses[p].SameCycle q) :
    CyclesGoOn s (s.moved p q) := by
  have press (x : PressNo) : s.presses[x].SameCycle (s.moved p q).presses[x] := by
    by_cases own : x = p
    · rw [own, State.moved_self]
      exact same
    · rw [State.moved_other s q own]
      exact Press.SameCycle.refl _
  refine ⟨press, ⟨fun x => ?_, rfl, rfl, rfl, rfl, rfl, State.moved_mask .., rfl⟩⟩
  rw [(press x).idled]
  rfl

theorem State.releaseOpen_goesOn {s : State} {p : PressNo} (cured : s.presses[p].state = .cured) (f : Frame) :
    CyclesGoOn s (s.releaseOpen p f) := by
  let t := (s.pushRelease p .openCmd f).raise .openReleased p.val 0
  have released : CyclesGoOn s t := by
    refine ⟨fun q => Press.SameCycle.refl _, ⟨fun _ => rfl, rfl, rfl, ?_, rfl, rfl, State.raise_mask .., rfl⟩⟩
    show (s.line.release ++ [_]).filter _ = _
    rw [List.filter_append]
    exact List.append_nil _
  rw [State.releaseOpen_eq f (by rw [cured]; decide)]
  exact released.trans (CyclesGoOn.moved (s := t) (Press.released_sameCycle cured _ _))

theorem State.testCured_goesOn (s : State) (p : PressNo) : CyclesGoOn s (s.testCured p) := by
  by_cases met : s.curedTest p = true
  · have curing := State.state_of_curedTest met
    have cured := CyclesGoOn.moved (Press.cured_sameCycle curing s.now)
    have self : (s.moved p (s.presses[p].cured s.now)).presses[p].state = .cured := by
      rw [State.moved_self]
      rfl
    rw [State.testCured_met met, State.becomeCured_entered curing]
    cases s.presses[p].hold with
    | none => exact cured
    | some f => exact cured.trans (State.releaseOpen_goesOn self f)
  · rw [State.testCured_not_met met]
    exact CyclesGoOn.refl s

theorem State.workDue_goesOn (s : State) : CyclesGoOn s s.workDue := by
  unfold State.workDue
  split
  · have zones : CyclesGoOn s (allZones.foldl State.periodZone { s with periodDue := false }) := by
      have taken : CyclesGoOn s { s with periodDue := false } :=
        CyclesGoOn.of_only (c := { periodDue := true }) (by constructor <;> simp) rfl rfl rfl
      refine taken.trans (CyclesGoOn.foldl (fun t z => ?_) _ _)
      exact CyclesGoOn.of_only (t.periodZone_only z) rfl (t.periodZone_mask z) (by rw [(t.periodZone_only z).weigh rfl])
    exact zones.trans (CyclesGoOn.foldl State.testCured_goesOn _ _)
  · exact CyclesGoOn.refl s

/-- After the period that is due and every posted write. -/
def State.settled (s : State) : State := s.settlePeriod.applyAllPosted

section
variable {s : State}

theorem State.settled_tables (s : State) : s.settled.tables = s.agent.posted.foldl Tables.after s.tables := by
  rw [State.settled, State.settlePeriod_applyAllPosted, State.applyRun_tables, s.workDue_only.tables rfl]

theorem State.settled_posted (s : State) : s.settled.agent.posted = [] := State.applyAllPosted_posted _

variable (posts : ∀ w ∈ s.agent.posted, w.table ≤ 3)
include posts

theorem State.settled_goesOn : CyclesGoOn s s.settled := by
  rw [State.settled, State.settlePeriod_applyAllPosted]
  obtain ⟨mask, recipe⟩ := s.workDue.applyRun_mask_recipe s.agent.posted
  exact s.workDue_goesOn.trans (CyclesGoOn.of_only (State.applyRun_only posts) rfl mask recipe)

theorem State.settled_only :
    Only { line := true, tables := true, targets := true, zones := true, periodDue := true, weigh := true,
           presses := true, agent := true, notices := true } s s.settled := by
  rw [State.settled, State.settlePeriod_applyAllPosted]
  exact s.workDue_only.andThen (State.applyRun_only posts) rfl

theorem State.settled_agent :
    (∀ j : Fin 4, s.settled.agent.contexts[j] =
      (s.agent.contexts[j]).map (fun c => { c with wait := c.wait - s.agent.posted.length })) ∧
    { s.settled.agent with posted := s.agent.posted, contexts := s.agent.contexts } = s.agent := by
  have agent := s.workDue_only.agent rfl
  obtain ⟨contexts, others⟩ := State.applyRun_agent (s := s.workDue) posts
  rw [agent] at contexts others
  rw [State.settled, State.settlePeriod_applyAllPosted]
  exact ⟨contexts, others⟩

omit posts in
/-- Posted writes leave the tables that are not posted (Table 86). -/
theorem tables_after_posted {l : List Write} (posts : ∀ w ∈ l, w.table ≤ 3) (t : Tables) :
    let u := l.foldl Tables.after t
    u.rt = t.rt ∧ u.pt = t.pt ∧ u.gt = t.gt ∧ u.sys = t.sys := by
  refine List.foldlRecOn (motive := fun u : Tables => u.rt = t.rt ∧ u.pt = t.pt ∧ u.gt = t.gt ∧ u.sys = t.sys)
    l _ ⟨rfl, rfl, rfl, rfl⟩ fun u kept w mem => ?_
  have posted := posts w mem
  cases w with
  | cht i e | lin i e | crt i e | zt i e => exact kept
  | rt i e | pt i e | gt i e | sys e | acc i e => simp [Write.table] at posted

end

/-! ### Ending a cycle (R115, R130) -/

/-- Each press in cycle has its parts, and its slot is reserved for it alone (R101, R134). -/
structure State.InHand (s : State) : Prop where
  parts : ∀ p : PressNo, s.presses[p].state.inCycle = true → ∃ n c r, s.carries p n c r = true
  held : ∀ (p : PressNo) (n : SlotNo), s.presses[p].slot = some n → s.store.slots[n] = .reserved (.press p)

theorem State.Custody.inHand {s : State} (custody : s.Custody) : s.InHand := by
  refine ⟨fun p cycling => ?_, custody.press⟩
  obtain ⟨slot, cycle, recipe⟩ := custody.inCycle p cycling
  obtain ⟨n, slot⟩ := Option.isSome_iff_exists.mp slot
  obtain ⟨c, cycle⟩ := Option.isSome_iff_exists.mp cycle
  obtain ⟨r, recipe⟩ := Option.isSome_iff_exists.mp recipe
  exact ⟨n, c, r, State.carries_iff.mpr ⟨slot, cycle, recipe⟩⟩

theorem State.InHand.goesOn {s t : State} (h : s.InHand) (on : CyclesGoOn s t) (store : t.store = s.store) :
    t.InHand := by
  refine ⟨fun p cycling => ?_, fun p n slot => ?_⟩
  · obtain ⟨n, c, r, carries⟩ := h.parts p ((on.press p).inCycle.symm.trans cycling)
    obtain ⟨slot, cycle, recipe⟩ := State.carries_iff.mp carries
    have still : t.presses[p].cycle.isSome = true := by rw [(on.press p).cycle, cycle, Option.isSome_some]
    obtain ⟨c', cycle'⟩ := Option.isSome_iff_exists.mp still
    exact ⟨n, c', r, State.carries_iff.mpr ⟨(on.press p).slot.trans slot, cycle', (on.press p).recipe.trans recipe⟩⟩
  · rw [store]
    exact h.held p n ((on.press p).slot.symm.trans slot)

/-- A slot holds the record of a cycle of this press that was ended from outside (R116). -/
def Slot.holdsAborted (s : State) (p : PressNo) (y : Slot) : Prop :=
  ∃ x d, y = .stored x d ∧ x.kind = .part ∧ x.press = some p ∧ x.disposition = .aborted ∧ d = freshDelivery s

/-- The cycle of a press has been ended, its record stored in the slot it held. -/
structure CycleEnded (s t : State) (p : PressNo) (n : SlotNo) : Prop where
  stopping : Stopping s t
  only : Only { line := true, presses := true, store := true, notices := true } s t
  state : t.presses[p].state = .idle
  freed : t.presses[p].slot = none
  others : ∀ q : PressNo, q ≠ p → t.presses[q] = s.presses[q]
  record : t.store.slots[n].holdsAborted s p
  slots : ∀ m : SlotNo, m ≠ n → t.store.slots[m] = s.store.slots[m]
  counter : t.store.recordNo = s.store.recordNo + 1

theorem freshDelivery_of_tables {s t : State} (tables : t.tables = s.tables) : freshDelivery t = freshDelivery s := by
  rw [freshDelivery, tables, freshDelivery]

theorem Press.finished_idled {q : Press} (cycling : q.state.inCycle = true) : (q.finished .idle).idled = q.idled := by
  rw [Press.idled, Press.idled, if_pos cycling]
  rfl

theorem ne_idle_of_inCycle {x : PressState} (cycling : x.inCycle = true) : x ≠ .idle := by
  rintro rfl
  simp [PressState.inCycle] at cycling

/-- RESTART ends a cycle without a halt order (R130). -/
theorem State.restartPress_ended {s : State} {p : PressNo} {n : SlotNo} {c : CycleRecord} {r : RecipeNo}
    (carries : s.carries p n c r = true) (cycling : s.presses[p].state.inCycle = true) :
    CycleEnded s (s.restartPress p) p n := by
  have changes := ne_idle_of_inCycle cycling
  have finalised := State.finalise_finalised .aborted carries changes
  have press : (s.restartPress p).presses[p] = s.presses[p].finished .idle := by
    rw [State.restartPress, State.finalise_eq .aborted carries changes, State.moved_self]
  have only := s.finalise_only p .aborted .idle
  obtain ⟨x, record, slot⟩ := finalised.record
  refine ⟨⟨fun q => ?_, ?_, ?_, ?_, finalised.kept.2, finalised.kept.1, ?_, ?_⟩, only.widen rfl, finalised.state,
    finalised.gaveUp.1, finalised.otherPresses, ?_, finalised.otherSlots, finalised.counter⟩
  · by_cases own : q = p
    · rw [own, press, Press.finished_idled cycling]
      rfl
    · rw [State.restartPress, finalised.otherPresses q own]
      rfl
  · rw [State.restartPress, only.line rfl]
  · rw [State.restartPress, only.line rfl]
  · rw [State.restartPress, only.line rfl]
  · rw [State.restartPress, State.finalise_eq .aborted carries changes, State.moved_mask]
    exact State.raise_mask ..
  · rw [State.restartPress, only.weigh rfl]
  · exact ⟨x, _, slot, record.kind, record.press, record.disposition, rfl⟩

/-! ### Halts ordered before (R125, R130) -/

theorem tieHalt_unawaited (p : PressNo) (down : List DownItem) :
    (tieHalt p down).map DownItem.unawaited = down.map DownItem.unawaited := by
  rw [tieHalt, List.map_map]
  refine List.map_congr_left fun d _ => ?_
  simp only [Function.comp_apply]
  split
  · rfl
  · split
    · rfl
    · rfl

section
variable {s : State} {p : PressNo}

theorem State.orderHalt_down (s : State) (p : PressNo) :
    (s.orderHalt p).line.down.map DownItem.unawaited = s.line.down.map DownItem.unawaited := by
  unfold State.orderHalt
  dsimp only
  split
  · exact tieHalt_unawaited p s.line.down
  · split
    · rfl
    · rfl

theorem State.orderHalt_line (s : State) (p : PressNo) :
    { (s.orderHalt p).line with down := s.line.down } = s.line := by
  unfold State.orderHalt
  dsimp only
  split
  · rfl
  · split
    · rfl
    · rfl

theorem State.orderHalt_other {q : PressNo} (other : q ≠ p) : (s.orderHalt p).presses[q] = s.presses[q] := by
  unfold State.orderHalt
  dsimp only
  split
  · exact State.updPress_other _ _ other
  · split
    · exact State.updPress_other _ _ other
    · rfl

/-- An order leaves the press with some halt. -/
theorem State.orderHalt_ne_none (s : State) (p : PressNo) : (s.orderHalt p).presses[p].halt ≠ .none := by
  rw [State.orderHalt_self]
  dsimp only
  split
  · nofun
  · split
    · nofun
    next held => exact held

/-- An order changes of a press its halt alone. -/
theorem State.haltIfEjecting_press (s : State) (p q : PressNo) :
    { (s.haltIfEjecting p).presses[q] with halt := s.presses[q].halt } = s.presses[q] := by
  unfold State.haltIfEjecting
  split
  · by_cases own : q = p
    · rw [own, State.orderHalt_self]
    · rw [State.orderHalt_other own]
  · rfl

theorem State.haltIfEjecting_other {q : PressNo} (other : q ≠ p) : (s.haltIfEjecting p).presses[q] = s.presses[q] := by
  unfold State.haltIfEjecting
  split
  · exact State.orderHalt_other other
  · rfl

theorem State.haltIfEjecting_stopping (s : State) (p : PressNo) : Stopping s (s.haltIfEjecting p) := by
  have only := s.haltIfEjecting_only p
  have press (q : PressNo) :
      { (s.haltIfEjecting p).presses[q].idled with halt := s.presses[q].halt } = s.presses[q].idled :=
    congrArg Press.idled (s.haltIfEjecting_press p q)
  refine ⟨press, ?_, ?_, ?_, ?_, ?_, ?_, ?_⟩
  · unfold State.haltIfEjecting
    split
    · exact congrArg (fun l : Line => { l with release := s.line.release }) (s.orderHalt_line p)
    · rfl
  · unfold State.haltIfEjecting
    split
    · exact s.orderHalt_down p
    · rfl
  · unfold State.haltIfEjecting
    split
    · exact congrArg (List.filter _) (congrArg Line.release (s.orderHalt_line p) :)
    · rfl
  · rw [only.store rfl]
  · rw [only.store rfl]
  · rw [only.notices rfl]
  · rw [only.weigh rfl]

/-- MODE STOP ends a cycle, a stroke with a halt (R130). -/
theorem State.stopPress_ended {n : SlotNo} {c : CycleRecord} {r : RecipeNo}
    (carries : s.carries p n c r = true) (cycling : s.presses[p].state.inCycle = true) :
    CycleEnded s (s.stopPress p) p n := by
  have only := s.haltIfEjecting_only p
  have press := s.haltIfEjecting_press p p
  obtain ⟨slot, cycle, recipe⟩ := State.carries_iff.mp carries
  have carries' : (s.haltIfEjecting p).carries p n c r = true := State.carries_iff.mpr
    ⟨(congrArg Press.slot press).trans slot, (congrArg Press.cycle press).trans cycle,
      (congrArg Press.recipe press).trans recipe⟩
  have state : (s.haltIfEjecting p).presses[p].state = s.presses[p].state :=
    (congrArg Press.state press :)
  have ended := State.restartPress_ended carries' (by rw [state]; exact cycling)
  have fresh : freshDelivery (s.haltIfEjecting p) = freshDelivery s := freshDelivery_of_tables (only.tables rfl)
  obtain ⟨x, d, record⟩ := ended.record
  exact {
    stopping := (s.haltIfEjecting_stopping p).trans ended.stopping
    only := (only.widen rfl).trans ended.only
    state := ended.state
    freed := ended.freed
    others := fun q other => (ended.others q other).trans (State.haltIfEjecting_other other)
    record := ⟨x, d, fresh ▸ record⟩
    slots := fun m other => by rw [← only.store rfl]; exact ended.slots m other
    counter := by rw [← only.store rfl]; exact ended.counter }

end

/-! ### Every cycle under way (R116) -/

/-- The cycles of some presses have been ended. -/
structure CyclesEnded (s t : State) (l : List PressNo) : Prop where
  stopping : Stopping s t
  only : Only { line := true, presses := true, store := true, notices := true } s t
  inHand : t.InHand
  ended : ∀ p ∈ l, t.presses[p].state = .idle ∧ t.presses[p].slot = none
  others : ∀ q : PressNo, q ∉ l → t.presses[q] = s.presses[q]
  records : ∀ p ∈ l, ∀ n : SlotNo, s.presses[p].slot = some n → t.store.slots[n].holdsAborted s p
  slots : ∀ m : SlotNo, (∀ q : PressNo, s.store.slots[m] ≠ .reserved (.press q)) → t.store.slots[m] = s.store.slots[m]
  counter : t.store.recordNo = s.store.recordNo + BitVec.ofNat 32 l.length

theorem CycleEnded.inHand {s t : State} {p : PressNo} {n : SlotNo} (h : CycleEnded s t p n)
    (slot : s.presses[p].slot = some n) (inHand : s.InHand) : t.InHand := by
  refine ⟨fun q cycling => ?_, fun q m held => ?_⟩
  · have other : q ≠ p := by
      rintro rfl
      exact ne_idle_of_inCycle cycling h.state
    obtain ⟨m, c, r, carries⟩ := inHand.parts q (by rw [← h.others q other]; exact cycling)
    refine ⟨m, c, r, ?_⟩
    rw [State.carries_iff, h.others q other, ← State.carries_iff]
    exact carries
  · have other : q ≠ p := by
      rintro rfl
      exact absurd (h.freed.symm.trans held) nofun
    rw [h.others q other] at held
    have reserved := inHand.held q m held
    have apart : m ≠ n := by
      rintro rfl
      have both := reserved.symm.trans (inHand.held p m slot)
      simp only [Slot.reserved.injEq, Holder.press.injEq] at both
      exact other both
    rw [h.slots m apart]
    exact reserved

/-- A record more before some others. -/
theorem recordNo_step {a b : Number} {k : Nat} (step : b = a + 1) :
    b + BitVec.ofNat 32 k = a + BitVec.ofNat 32 (k + 1) := by
  rw [step, BitVec.add_assoc, Nat.add_comm, BitVec.ofNat_add]
  rfl

/-- Ending the cycles of presses one after the other. -/
theorem CyclesEnded.foldl {g : State → PressNo → State}
    (one : ∀ (s : State) (p : PressNo) (n : SlotNo) (c : CycleRecord) (r : RecipeNo), s.carries p n c r = true →
      s.presses[p].state.inCycle = true → CycleEnded s (g s p) p n) :
    ∀ (l : List PressNo) (s : State), l.Nodup → (∀ p ∈ l, s.presses[p].state.inCycle = true) → s.InHand →
      CyclesEnded s (l.foldl g s) l := by
  intro l
  induction l with
  | nil =>
    exact fun s _ _ inHand => ⟨Stopping.refl s, Only.refl _ s, inHand, by simp, fun _ _ => rfl, by simp, fun _ _ => rfl,
      by simp⟩
  | cons p ps ih =>
    intro s once cycling inHand
    rw [List.nodup_cons] at once
    obtain ⟨out, once⟩ := once
    obtain ⟨n, c, r, carries⟩ := inHand.parts p (cycling p List.mem_cons_self)
    have slot := (State.carries_iff.mp carries).1
    have first := one s p n c r carries (cycling p List.mem_cons_self)
    have still (q : PressNo) (mem : q ∈ ps) : (g s p).presses[q] = s.presses[q] :=
      first.others q fun same => out (same ▸ mem)
    have rest := ih (g s p) once
      (fun q mem => by rw [still q mem]; exact cycling q (List.mem_cons_of_mem p mem)) (first.inHand slot inHand)
    have fresh : freshDelivery (g s p) = freshDelivery s := freshDelivery_of_tables (first.only.tables rfl)
    exact {
      stopping := first.stopping.trans rest.stopping
      only := first.only.trans rest.only
      inHand := rest.inHand
      ended := fun q mem => by
        obtain rfl | mem := List.mem_cons.mp mem
        · rw [List.foldl_cons, rest.others q out]
          exact ⟨first.state, first.freed⟩
        · exact rest.ended q mem
      others := fun q apart => by
        rw [List.mem_cons, not_or] at apart
        exact (rest.others q apart.2).trans (first.others q apart.1)
      records := fun q mem m held => by
        obtain rfl | mem := List.mem_cons.mp mem
        · obtain rfl : n = m := Option.some.inj (slot.symm.trans held)
          obtain ⟨x, d, stored, kind⟩ := first.record
          exact ⟨x, d, (rest.slots n (by rw [stored]; nofun)).trans stored, kind⟩
        · obtain ⟨x, d, record⟩ := rest.records q mem m (by rw [still q mem]; exact held)
          exact ⟨x, d, fresh ▸ record⟩
      slots := fun m free => by
        have apart : m ≠ n := by
          rintro rfl
          exact free p (inHand.held p m slot)
        have same := first.slots m apart
        exact (rest.slots m (by rw [same]; exact free)).trans same
      counter := rest.counter.trans (recordNo_step first.counter) }

/-! ### The charges that RESTART discards (R92) -/

/-- A slot holds the record of a charge that was discarded (R92). -/
def Slot.holdsDiscarded (s : State) (e : ChargeEntry) (y : Slot) : Prop :=
  ∃ x, y = .stored x (freshDelivery s) ∧ x.kind = .charge ∧ x.disposition = .discarded ∧ x.chargeNo = e.number

/-- Some charge entries have been recorded as discarded, each in its slot. -/
structure ChargesDiscarded (s t : State) (l : List ChargeEntry) : Prop where
  stopping : Stopping s t
  only : Only { store := true, notices := true } s t
  records : ∀ e ∈ l, t.store.slots[e.slot].holdsDiscarded s e
  slots : ∀ m : SlotNo, m ∉ l.map (·.slot) → t.store.slots[m] = s.store.slots[m]
  counter : t.store.recordNo = s.store.recordNo + BitVec.ofNat 32 l.length

theorem State.recordCharge_discarded (s : State) (e : ChargeEntry) :
    ChargesDiscarded s (s.recordCharge e .discarded) [e] := by
  have eq := s.storeRecord_eq e.slot (chargeRecord e.number e.recipe e.weight e.dev .discarded)
  have only := s.recordCharge_only e .discarded
  rw [State.recordCharge] at only ⊢
  refine ⟨⟨fun p => ?_, ?_, ?_, ?_, ?_, ?_, ?_, ?_⟩, only, ?_, fun m out => ?_, ?_⟩
  · rw [only.presses rfl]
    rfl
  · rw [only.line rfl]
  · rw [only.line rfl]
  · rw [only.line rfl]
  · rw [eq]
    rfl
  · rw [eq]
    rfl
  · rw [eq]
    exact State.raise_mask ..
  · rw [only.weigh rfl]
  · intro x mem
    rw [List.mem_singleton.mp mem, eq]
    exact ⟨_, Vector.getElem_set_self e.slot.isLt, rfl, rfl, rfl⟩
  · rw [List.map_singleton, List.mem_singleton] at out
    rw [eq]
    exact Vector.getElem_set_ne e.slot.isLt m.isLt fun same => out (Fin.ext same.symm)
  · rw [eq]
    rfl

theorem ChargesDiscarded.foldl : ∀ (l : List ChargeEntry) (s : State), (l.map (·.slot)).Nodup →
    ChargesDiscarded s (l.foldl (fun s e => s.recordCharge e .discarded) s) l := by
  intro l
  induction l with
  | nil => exact fun s _ => ⟨Stopping.refl s, Only.refl _ s, by simp, fun _ _ => rfl, by simp⟩
  | cons e es ih =>
    intro s once
    rw [List.map_cons, List.nodup_cons] at once
    obtain ⟨out, once⟩ := once
    have first := s.recordCharge_discarded e
    have rest := ih (s.recordCharge e .discarded) once
    have fresh : freshDelivery (s.recordCharge e .discarded) = freshDelivery s :=
      freshDelivery_of_tables (first.only.tables rfl)
    exact {
      stopping := first.stopping.trans rest.stopping
      only := first.only.trans rest.only
      records := fun x mem => by
        obtain rfl | mem := List.mem_cons.mp mem
        · obtain ⟨y, stored, kind⟩ := first.records x (List.mem_singleton_self x)
          exact ⟨y, (rest.slots _ out).trans stored, kind⟩
        · obtain ⟨y, record⟩ := rest.records x mem
          exact ⟨y, fresh ▸ record⟩
      slots := fun m apart => by
        rw [List.map_cons, List.mem_cons, not_or] at apart
        exact (rest.slots m apart.2).trans (first.slots m (by simpa using apart.1))
      counter := rest.counter.trans (recordNo_step first.counter) }

theorem State.discardAll_discarded {s : State} (apart : (s.charges.map (·.slot)).Nodup) :
    ChargesDiscarded { s with charges := [] } s.discardAll s.charges :=
  ChargesDiscarded.foldl s.charges _ apart

/-- Distinct entries hold distinct slots (R84, R134). -/
theorem State.Custody.slots_nodup {s : State} (custody : s.Custody) : (s.charges.map (·.slot)).Nodup := by
  refine List.Nodup.map_on (fun x hx y hy same => ?_) (List.Nodup.of_map _ custody.numbers)
  refine List.inj_on_of_nodup_map custody.numbers hx hy ?_
  have both := (custody.charge x hx).symm.trans
    ((congrArg (fun k : SlotNo => s.store.slots[k]) same).trans (custody.charge y hy))
  simpa using both

/-! ### Every press in IDLE (R116) -/

section
variable {s : State} {p q : PressNo}

theorem State.setPressState_presses (s : State) (p : PressNo) (st : PressState) :
    (s.setPressState p st).presses = s.presses.set p { s.presses[p] with state := st } := by
  by_cases same : s.presses[p].state = st
  · rw [State.setPressState_same same, ← same]
    exact (Vector.set_getElem_self ..).symm
  · rw [State.setPressState_moved same]
    rfl

/-- A press that enters IDLE from READY or IDLE (R116). -/
def Press.retired (q : Press) : Press := { q.cancelTimers with recipe := none, hold := none, state := .idle }

theorem State.pressToIdle_presses (s : State) (p : PressNo) :
    (s.pressToIdle p).presses = s.presses.set p s.presses[p].retired := by
  let t := s.updPress p (fun q => { q.cancelTimers with recipe := none, hold := none })
  have cleared : (t.clearZones p .idle).presses = t.presses := (t.clearZones_only p .idle).presses rfl
  have self : t.presses[p] = { s.presses[p].cancelTimers with recipe := none, hold := none } := State.updPress_self ..
  rw [State.pressToIdle, State.setPressState_presses, cleared, self]
  exact Vector.set_set ..

theorem State.pressToIdle_self (s : State) (p : PressNo) : (s.pressToIdle p).presses[p] = s.presses[p].retired := by
  rw [State.pressToIdle_presses]
  exact Vector.getElem_set_self p.isLt

theorem State.pressToIdle_other (other : q ≠ p) : (s.pressToIdle p).presses[q] = s.presses[q] := by
  rw [State.pressToIdle_presses]
  exact Vector.getElem_set_ne p.isLt q.isLt fun same => other (Fin.ext same.symm)

theorem State.pressToIdle_zones (s : State) (p : PressNo) (z : ZoneNo) :
    (s.pressToIdle p).zones[z] = if z ∈ s.tables.pt[p].zones then s.zones[z].cleared .idle else s.zones[z] := by
  rw [State.pressToIdle, (State.setPressState_only _ _ _).zones rfl]
  exact clearAll_zones .idle s.tables.pt[p].zones _ z

theorem State.pressToIdle_mask (s : State) (p : PressNo) : (s.pressToIdle p).notices.mask = s.notices.mask := by
  rw [State.pressToIdle, State.setPressState_mask, (State.clearZones_only _ _ _).notices rfl]
  rfl

theorem Press.retired_idled {x : Press} (out : x.state.inCycle = false) : x.retired.idled = x.idled := by
  rw [Press.idled, Press.idled, out]
  rfl

theorem Press.idled_retired {x : Press} (free : x.slot = none) : x.retired.idled = x.retired := by
  rw [Press.idled, ← show x.retired.slot = none from free]
  rfl

/-- A press that is not in cycle enters IDLE with all that R116 leaves. -/
theorem State.pressToIdle_stopping (out : s.presses[p].state.inCycle = false) : Stopping s (s.pressToIdle p) := by
  have only := s.pressToIdle_only p
  refine ⟨fun q => ?_, ?_, ?_, ?_, ?_, ?_, s.pressToIdle_mask p, ?_⟩
  · by_cases own : q = p
    · rw [own, State.pressToIdle_self, Press.retired_idled out]
      rfl
    · rw [State.pressToIdle_other own]
      rfl
  · rw [only.line rfl]
  · rw [only.line rfl]
  · rw [only.line rfl]
  · rw [only.store rfl]
  · rw [only.store rfl]
  · rw [only.weigh rfl]

end

/-- No press is in cycle or holds a slot. -/
def State.NoCycle (s : State) : Prop := ∀ p : PressNo, s.presses[p].state.inCycle = false ∧ s.presses[p].slot = none

section
variable {s : State} (out : s.NoCycle)
include out

theorem State.NoCycle.pressToIdle (p : PressNo) : (s.pressToIdle p).NoCycle := by
  intro q
  by_cases own : q = p
  · rw [own, State.pressToIdle_self]
    exact ⟨rfl, (out p).2⟩
  · rw [State.pressToIdle_other own]
    exact out q

theorem State.allToIdle_stopping : Stopping s s.allToIdle :=
  (List.foldlRecOn (motive := fun t : State => Stopping s t ∧ t.NoCycle) allPresses State.pressToIdle
    ⟨Stopping.refl s, out⟩ fun _ ⟨stopping, out⟩ p _ =>
      ⟨stopping.trans (State.pressToIdle_stopping (out p).1), out.pressToIdle p⟩).1

theorem State.allToIdle_idled (p : PressNo) : s.allToIdle.presses[p].idled = s.allToIdle.presses[p] :=
  foldl_once (P := fun t : State => t.presses[p].slot = none) (Q := fun t : State => t.presses[p].idled = t.presses[p])
    (fun t q other free => by rw [State.pressToIdle_other (Ne.symm other)]; exact free)
    (fun t free => by rw [State.pressToIdle_self]; exact Press.idled_retired free)
    (fun t q other idled => by rw [State.pressToIdle_other (Ne.symm other)]; exact idled)
    allPresses s allPresses_nodup (mem_allPresses p) (out p).2
end

section
variable (s : State) (p : PressNo)

theorem State.allToIdle_only : Only { presses := true, zones := true, notices := true } s s.allToIdle :=
  Only.foldl State.pressToIdle_only allPresses s

theorem State.allToIdle_halt : s.allToIdle.presses[p].halt = s.presses[p].halt := by
  refine List.foldlRecOn (motive := fun t : State => t.presses[p].halt = s.presses[p].halt) allPresses
    State.pressToIdle rfl fun t same q _ => ?_
  by_cases own : p = q
  · subst own
    rw [State.pressToIdle_self]
    exact same
  · rw [State.pressToIdle_other own]
    exact same

/-- The zones of every press are cleared into IDLE (R58). -/
theorem State.allToIdle_zones {z : ZoneNo} (mem : z ∈ s.tables.pt[p].zones) :
    ∃ q : ZoneRecord, s.allToIdle.zones[z] = q.cleared .idle := by
  refine foldl_once (P := fun t : State => t.tables = s.tables)
    (Q := fun t : State => ∃ q : ZoneRecord, t.zones[z] = q.cleared .idle)
    (fun t q _ tables => ((t.pressToIdle_only q).tables rfl).trans tables)
    (fun t tables => ⟨t.zones[z], ?_⟩) (fun t q _ ⟨x, cleared⟩ => ?_)
    allPresses s allPresses_nodup (mem_allPresses p) rfl
  · rw [State.pressToIdle_zones, tables, if_pos mem]
  · rw [State.pressToIdle_zones]
    split
    · exact ⟨_, rfl⟩
    · exact ⟨x, cleared⟩

end

/-! ### The state in which every press is IDLE -/

/-- The state that MODE STOP and RESTART reach before the mode changes: every posted write applied, every cycle under
way recorded, every press in IDLE with its zones cleared. -/
structure Idled (s u : State) : Prop where
  stopping : Stopping s u
  only : Only { line := true, tables := true, targets := true, zones := true, periodDue := true, weigh := true,
                presses := true, agent := true, notices := true, store := true, charges := true } s u
  tables : u.tables = s.agent.posted.foldl Tables.after s.tables
  agent : u.agent = s.settled.agent
  idle : ∀ p : PressNo, u.presses[p].idled = u.presses[p]
  zones : ∀ p : PressNo, ∀ z ∈ u.tables.pt[p].zones, ∃ q : ZoneRecord, u.zones[z] = q.cleared .idle
  records : ∀ (p : PressNo) (n : SlotNo), s.presses[p].state.inCycle = true → s.presses[p].slot = some n →
    u.store.slots[n].holdsAborted s p

theorem State.mem_cycling {s : State} {p : PressNo} : p ∈ s.cycling ↔ s.presses[p].state.inCycle = true := by
  simp [State.cycling, State.inCycle]

theorem State.cycling_nodup (s : State) : s.cycling.Nodup := allPresses_nodup.filter _

section
variable {s : State} (custody : s.Custody) (posts : ∀ w ∈ s.agent.posted, w.table ≤ 3)
include posts

theorem State.settled_cycling : s.settled.cycling = s.cycling := by
  refine List.filter_congr fun p _ => ?_
  exact ((State.settled_goesOn posts).press p).inCycle

theorem State.settled_store : s.settled.store = s.store := (State.settled_only posts).store rfl

theorem State.settled_fresh : freshDelivery s.settled = freshDelivery s := by
  obtain ⟨-, -, -, sys⟩ := tables_after_posted posts s.tables
  rw [freshDelivery, State.settled_tables, sys, freshDelivery]

include custody

theorem State.settled_ended {g : State → PressNo → State}
    (one : ∀ (s : State) (p : PressNo) (n : SlotNo) (c : CycleRecord) (r : RecipeNo), s.carries p n c r = true →
      s.presses[p].state.inCycle = true → CycleEnded s (g s p) p n) :
    CyclesEnded s.settled (s.settled.cycling.foldl g s.settled) s.settled.cycling :=
  CyclesEnded.foldl one _ _ (State.cycling_nodup _) (fun _ mem => State.mem_cycling.mp mem)
    (custody.inHand.goesOn (State.settled_goesOn posts) (State.settled_store posts))

theorem CyclesEnded.noCycle {e : State} (ended : CyclesEnded s.settled e s.settled.cycling) : e.NoCycle := by
  intro p
  by_cases mem : p ∈ s.settled.cycling
  · obtain ⟨state, slot⟩ := ended.ended p mem
    rw [state]
    exact ⟨rfl, slot⟩
  · have on := (State.settled_goesOn posts).press p
    have out : s.settled.presses[p].state.inCycle = false := by simpa using mt State.mem_cycling.mpr mem
    rw [ended.others p mem]
    exact ⟨out, on.slot.trans (custody.outOfCycle p (on.inCycle.symm.trans out))⟩

/-- Every press goes to IDLE once no cycle is under way, whatever is stored between in slots that no press held. -/
theorem CyclesEnded.idled {e v : State} (ended : CyclesEnded s.settled e s.settled.cycling)
    (stopping : Stopping e v) (only : Only { store := true, notices := true, charges := true } e v)
    (kept : ∀ (p : PressNo) (n : SlotNo), s.presses[p].slot = some n → v.store.slots[n] = e.store.slots[n]) :
    Idled s v.allToIdle := by
  have on := State.settled_goesOn posts
  have out : v.NoCycle := by
    intro p
    rw [only.presses rfl]
    exact ended.noCycle custody posts p
  have tables : v.allToIdle.tables = s.settled.tables :=
    (v.allToIdle_only.tables rfl).trans ((only.tables rfl).trans (ended.only.tables rfl))
  exact {
    stopping := (on.stopping.trans ended.stopping).trans (stopping.trans (State.allToIdle_stopping out))
    only := ((((State.settled_only posts).widen rfl).after ended.only rfl).after only rfl).after v.allToIdle_only rfl
    tables := tables.trans s.settled_tables
    agent := (v.allToIdle_only.agent rfl).trans ((only.agent rfl).trans (ended.only.agent rfl))
    idle := State.allToIdle_idled out
    zones := fun p z mem => v.allToIdle_zones p (by rw [← v.allToIdle_only.tables rfl]; exact mem)
    records := fun p n cycling slot => by
      have mem : p ∈ s.settled.cycling := State.mem_cycling.mpr ((on.press p).inCycle.trans cycling)
      obtain ⟨x, d, record⟩ := ended.records p mem n ((on.press p).slot.trans slot)
      rw [v.allToIdle_only.store rfl, kept p n slot]
      exact ⟨x, d, State.settled_fresh posts ▸ record⟩ }

end

/-! ### The change to CONFIG (R12, R13, R76, R163, R164) -/

/-- The change to CONFIG from a state with every press in IDLE, halts and drain channels apart. -/
structure AtRest (u t : State) : Prop where
  mode : t.mode = .config
  posted : t.agent.posted = u.agent.posted
  tables : t.tables = u.tables
  presses : ∀ p : PressNo, { t.presses[p] with halt := u.presses[p].halt } = u.presses[p]
  zones : t.zones = u.zones
  line : t.line = { u.line with
    burst := [], release := u.line.release.filter (fun x => x.kind == .label), hold := t.line.hold }
  weigh : t.weigh.state = .off
  store : t.store = u.store
  watches : t.sync = u.sync ∧ t.loss = u.loss

theorem State.stopped_atRest (u : State) : AtRest u u.enterConfig.weighGate := by
  have only := u.enterConfig.weighGate_only
  refine ⟨only.mode rfl, by rw [only.agent rfl]; rfl, only.tables rfl, fun p => by rw [only.presses rfl]; rfl,
    only.zones rfl, by rw [only.line rfl]; rfl, State.weighGate_off _ rfl, only.store rfl, only.sync rfl, only.loss rfl⟩

/-- At MODE STOP the block-drain hold, the agent and the station's recipe stay. -/
theorem State.stopped_keeps (u : State) :
    let t := u.enterConfig.weighGate
    t.line.hold = u.line.hold ∧ t.agent = u.agent ∧ t.weigh.recipe = u.weigh.recipe := by
  have only := u.enterConfig.weighGate_only
  refine ⟨?_, ?_, ?_⟩
  · rw [only.line rfl]
    rfl
  · rw [only.agent rfl]
    rfl
  · rw [State.weighGate_recipe]
    rfl

/-- RESTART's later steps (R164). -/
def State.restartRest (u : State) : State :=
  (u.restartDrains.restartAgent.restartNotices.enterConfig).restartWeigh

theorem State.restartRest_presses (u : State) (p : PressNo) :
    u.restartRest.presses[p] = { u.presses[p] with halt := .none } := getElem_mapVector ..

theorem State.restartRest_atRest (u : State) : AtRest u u.restartRest :=
  ⟨rfl, rfl, rfl, fun p => by rw [State.restartRest_presses], rfl, rfl, rfl, rfl, rfl, rfl⟩

/-- What RESTART clears, and what of it stays (R164). -/
theorem State.restartRest_clears (u : State) :
    let t := u.restartRest
    t.own = u.own ∧ t.charges = u.charges ∧ t.drain0 = { u.drain0 with running := false } ∧ t.line.hold = .off ∧
    t.weigh.recipe = none ∧
    t.pace = some { start := u.now, dur := u.tables.sys.paceUnit * u.tables.sys.paceFactor } ∧
    t.agent = { u.agent with contexts := Vector.replicate 4 none, marks := Vector.replicate 4 none, turn := 0 } ∧
    t.notices = { queue := [], mask := u.notices.mask, latches := .clear, counters := Vector.replicate 12 0,
                  half := Vector.replicate 12 false } ∧
    t.census = { Census.reset with passLatch := u.census.passLatch } :=
  ⟨rfl, rfl, rfl, rfl, rfl, rfl, rfl, rfl, rfl⟩

/-! ### The stages of MODE STOP and of RESTART -/

section
variable {s : State} (custody : s.Custody) (posts : ∀ w ∈ s.agent.posted, w.table ≤ 3)

/-- After every cycle under way has been ended with its halt order. -/
def State.cyclesStopped (s : State) : State := s.settled.cycling.foldl State.stopPress s.settled

/-- After every cycle under way has been ended without one. -/
def State.cyclesRestarted (s : State) : State := s.settled.cycling.foldl State.restartPress s.settled

theorem State.modeStop_eq (s : State) : s.modeStop = s.cyclesStopped.allToIdle.enterConfig.weighGate := rfl

theorem State.restart_eq (s : State) : s.restart = s.cyclesRestarted.discardAll.allToIdle.restartRest := rfl

theorem State.modeStop_atRest (s : State) : AtRest s.cyclesStopped.allToIdle s.modeStop := by
  rw [State.modeStop_eq]
  exact State.stopped_atRest _

theorem State.restart_atRest (s : State) : AtRest s.cyclesRestarted.discardAll.allToIdle s.restart := by
  rw [State.restart_eq]
  exact State.restartRest_atRest _

include custody posts

theorem State.cyclesStopped_ended : CyclesEnded s.settled s.cyclesStopped s.settled.cycling :=
  State.settled_ended custody posts fun _ _ _ _ _ => State.stopPress_ended

theorem State.cyclesRestarted_ended : CyclesEnded s.settled s.cyclesRestarted s.settled.cycling :=
  State.settled_ended custody posts fun _ _ _ _ _ => State.restartPress_ended

theorem State.cyclesStopped_idled : Idled s s.cyclesStopped.allToIdle :=
  (State.cyclesStopped_ended custody posts).idled custody posts (Stopping.refl _) (Only.refl _ _) fun _ _ _ => rfl

theorem State.modeStop_only :
    Only { mode := true, line := true, tables := true, targets := true, zones := true, periodDue := true,
           weigh := true, presses := true, agent := true, notices := true, store := true } s s.modeStop := by
  rw [State.modeStop_eq]
  exact ((((State.settled_only posts).widen rfl).after (State.cyclesStopped_ended custody posts).only rfl).after
    (State.allToIdle_only _) rfl |>.after (State.enterConfig_only _) rfl).after (State.weighGate_only _) rfl

theorem State.cyclesRestarted_charges : s.cyclesRestarted.charges = s.charges :=
  ((State.cyclesRestarted_ended custody posts).only.charges rfl).trans ((State.settled_only posts).charges rfl)

/-- The charges of the queue, each discarded into its slot. -/
theorem State.restart_discards :
    ChargesDiscarded { s.cyclesRestarted with charges := [] } s.cyclesRestarted.discardAll s.charges := by
  have charges := State.cyclesRestarted_charges custody posts
  have discarded := State.discardAll_discarded (s := s.cyclesRestarted) (by rw [charges]; exact custody.slots_nodup)
  rwa [charges] at discarded

theorem State.cyclesRestarted_idled : Idled s s.cyclesRestarted.discardAll.allToIdle := by
  have discarded := State.restart_discards custody posts
  have emptied : Only { charges := true } s.cyclesRestarted { s.cyclesRestarted with charges := [] } := by
    constructor <;> simp
  refine (State.cyclesRestarted_ended custody posts).idled custody posts
    ((Stopping.of_only emptied rfl rfl rfl).trans discarded.stopping) (emptied.andThen discarded.only rfl)
    fun p n slot => discarded.slots n ?_
  rintro mem
  obtain ⟨e, queued, rfl⟩ := List.mem_map.mp mem
  have both := (custody.charge e queued).symm.trans (custody.press p e.slot slot)
  simp at both

/-- The discarded charges' records stay where they are stored. -/
theorem State.restart_charges {e : ChargeEntry} (queued : e ∈ s.charges) :
    s.cyclesRestarted.discardAll.store.slots[e.slot].holdsDiscarded s e := by
  obtain ⟨x, record⟩ := (State.restart_discards custody posts).records e queued
  have fresh : freshDelivery { s.cyclesRestarted with charges := [] } = freshDelivery s :=
    (freshDelivery_of_tables ((State.cyclesRestarted_ended custody posts).only.tables rfl)).trans
      (State.settled_fresh posts)
  exact ⟨x, fresh ▸ record⟩

theorem State.cyclesStopped_recordNo :
    s.cyclesStopped.store.recordNo = s.store.recordNo + BitVec.ofNat 32 s.cycling.length := by
  rw [(State.cyclesStopped_ended custody posts).counter, State.settled_cycling posts, State.settled_store posts]

theorem State.restart_recordNo : s.cyclesRestarted.discardAll.store.recordNo =
    s.store.recordNo + BitVec.ofNat 32 (s.cycling.length + s.charges.length) := by
  have cycles := (State.cyclesRestarted_ended custody posts).counter
  rw [State.settled_cycling posts, State.settled_store posts] at cycles
  rw [(State.restart_discards custody posts).counter, BitVec.ofNat_add, ← BitVec.add_assoc, ← cycles]

end

/-! ### Halts at MODE STOP (R130) -/

section
variable {s t : State} {p : PressNo}

/-- Where an ordered halt stands depends on the halt held, the EJECT in the DOWN buffer and the halt command. -/
theorem orderHalt_halt_congr (halt : t.presses[p].halt = s.presses[p].halt)
    (down : t.line.down.map DownItem.unawaited = s.line.down.map DownItem.unawaited) (own : t.own = s.own)
    (pt : t.tables.pt = s.tables.pt) : (t.orderHalt p).presses[p].halt = (s.orderHalt p).presses[p].halt := by
  have frame : t.haltFrame p = s.haltFrame p := by rw [State.haltFrame, State.haltFrame, own, pt]
  rw [State.orderHalt_self, State.orderHalt_self, ejectStands_of_down down, halt, frame]

/-- What finalisation leaves of the presses, with or without a record to store. -/
theorem State.finalise_presses (s : State) (p : PressNo) (d : Disposition) (next : PressState) :
    (s.finalise p d next).presses = s.presses.set p (s.presses[p].finished next) := by
  let cut : Press → Press := fun q => { q.cancelTimers with hold := none }
  have rest (u : State) (presses : u.presses = (s.updPress p cut).presses) :
      ((u.updPress p (fun q => { q with slot := none, cycle := none })).setPressState p next).presses =
        s.presses.set p (s.presses[p].finished next) := by
    have self : u.presses[p] = cut s.presses[p] := by
      rw [presses]
      exact State.updPress_self ..
    rw [State.setPressState_presses, State.updPress_self, State.updPress_eq, self, presses]
    exact (Vector.set_set ..).trans (Vector.set_set ..)
  unfold State.finalise
  dsimp only
  split
  · exact rest _ rfl
  · exact rest _ rfl

theorem State.stopPress_other {q : PressNo} (other : p ≠ q) : (s.stopPress q).presses[p] = s.presses[p] := by
  rw [State.stopPress, State.finalise_presses, ← State.haltIfEjecting_other other]
  exact Vector.getElem_set_ne q.isLt p.isLt fun same => other (Fin.ext same.symm)

theorem State.stopPress_self (s : State) (p : PressNo) :
    (s.stopPress p).presses[p] = (s.haltIfEjecting p).presses[p].finished .idle := by
  rw [State.stopPress, State.finalise_presses]
  exact Vector.getElem_set_self p.isLt

theorem State.stopPress_only (s : State) (p : PressNo) :
    Only { line := true, presses := true, store := true, notices := true } s (s.stopPress p) :=
  (s.haltIfEjecting_only p).andThen (State.finalise_only _ p .aborted .idle) rfl

theorem State.stopPress_down (s : State) (p : PressNo) :
    (s.stopPress p).line.down.map DownItem.unawaited = s.line.down.map DownItem.unawaited := by
  rw [State.stopPress, (State.finalise_only _ p .aborted .idle).line rfl]
  exact (s.haltIfEjecting_stopping p).down

/-- A press in EJECTING has the halt it would have if it alone were stopped. -/
theorem stopAll_halt_ejecting {l : List PressNo} (once : l.Nodup) (mem : p ∈ l)
    (ejecting : s.presses[p].state = .ejecting) :
    (l.foldl State.stopPress s).presses[p].halt = (s.orderHalt p).presses[p].halt := by
  refine foldl_once
    (P := fun t : State => t.presses[p] = s.presses[p] ∧
      t.line.down.map DownItem.unawaited = s.line.down.map DownItem.unawaited ∧ t.own = s.own ∧ t.tables = s.tables)
    (Q := fun t : State => t.presses[p].halt = (s.orderHalt p).presses[p].halt)
    (fun t q other ⟨press, down, own, tables⟩ => ?before) (fun t ⟨press, down, own, tables⟩ => ?hit)
    (fun t q other halt => ?after) l s once mem ⟨rfl, rfl, rfl, rfl⟩
  case before =>
    exact ⟨(State.stopPress_other (Ne.symm other)).trans press, (t.stopPress_down q).trans down,
      ((t.stopPress_only q).own rfl).trans own, ((t.stopPress_only q).tables rfl).trans tables⟩
  case hit =>
    have ordered : t.haltIfEjecting p = t.orderHalt p := if_pos (by rw [press, ejecting]; rfl)
    rw [State.stopPress_self, ordered]
    exact orderHalt_halt_congr (by rw [press]) down own (by rw [tables])
  case after =>
    rw [State.stopPress_other (Ne.symm other)]
    exact halt

/-- Any other press keeps the halt it has. -/
theorem stopAll_halt_other (l : List PressNo) (other : s.presses[p].state ≠ .ejecting) :
    (l.foldl State.stopPress s).presses[p].halt = s.presses[p].halt := by
  refine (List.foldlRecOn
    (motive := fun t : State => t.presses[p].state ≠ .ejecting ∧ t.presses[p].halt = s.presses[p].halt)
    l State.stopPress ⟨other, rfl⟩ fun t ⟨away, halt⟩ q _ => ?_).2
  by_cases own : p = q
  · subst own
    have untouched : t.haltIfEjecting p = t := if_neg (by simpa using away)
    rw [State.stopPress_self, untouched]
    exact ⟨by rw [Press.finished]; nofun, halt⟩
  · rw [State.stopPress_other own]
    exact ⟨away, halt⟩

end

theorem State.modeStop_halt (s : State) (p : PressNo) :
    s.modeStop.presses[p].halt = s.cyclesStopped.presses[p].halt := by
  rw [State.modeStop_eq, (State.weighGate_only _).presses rfl, (State.enterConfig_only _).presses rfl,
    State.allToIdle_halt]

section
variable {s : State} (posts : ∀ w ∈ s.agent.posted, w.table ≤ 3)
include posts

theorem State.modeStop_halt_ejecting {p : PressNo} (ejecting : s.presses[p].state = .ejecting) :
    s.modeStop.presses[p].halt = (s.orderHalt p).presses[p].halt := by
  have on := State.settled_goesOn posts
  have state : s.settled.presses[p].state = .ejecting := (on.press p).ejecting.mpr ejecting
  have mem : p ∈ s.settled.cycling := State.mem_cycling.mpr (by rw [state]; rfl)
  obtain ⟨-, pt, -⟩ := tables_after_posted posts s.tables
  rw [State.modeStop_halt, State.cyclesStopped, stopAll_halt_ejecting (State.cycling_nodup _) mem state]
  exact orderHalt_halt_congr (on.press p).halt on.stopping.down ((State.settled_only posts).own rfl)
    (by rw [State.settled_tables, pt])

theorem State.modeStop_halt_other {p : PressNo} (other : s.presses[p].state ≠ .ejecting) :
    s.modeStop.presses[p].halt = s.presses[p].halt := by
  have on := (State.settled_goesOn posts).press p
  rw [State.modeStop_halt, State.cyclesStopped, stopAll_halt_other _ (mt on.ejecting.mp other), on.halt]

end

/-- What MODE STOP leaves of counter, hold, station and agent (R163). -/
theorem State.modeStop_keeps {s : State} (custody : s.Custody) (posts : ∀ w ∈ s.agent.posted, w.table ≤ 3) :
    s.modeStop.store.recordNo = s.store.recordNo + BitVec.ofNat 32 s.cycling.length ∧
    s.modeStop.line.hold = s.line.hold ∧
    s.modeStop.weigh.recipe = s.weigh.recipe ∧
    (∀ j : Fin 4, s.modeStop.agent.contexts[j] =
      (s.agent.contexts[j]).map (fun c => { c with wait := c.wait - s.agent.posted.length })) ∧
    { s.modeStop.agent with posted := s.agent.posted, contexts := s.agent.contexts } = s.agent := by
  have idled := State.cyclesStopped_idled custody posts
  obtain ⟨hold, agent, recipe⟩ := s.cyclesStopped.allToIdle.stopped_keeps
  rw [← State.modeStop_eq] at hold agent recipe
  have settled : s.modeStop.agent = s.settled.agent := agent.trans idled.agent
  obtain ⟨contexts, others⟩ := State.settled_agent posts
  refine ⟨?_, ?_, ?_, fun j => ?_, ?_⟩
  · rw [s.modeStop_atRest.store, (State.allToIdle_only _).store rfl, State.cyclesStopped_recordNo custody posts]
  · exact hold.trans idled.stopping.hold
  · exact recipe.trans idled.stopping.recipe
  · rw [settled]
    exact contexts j
  · rw [settled]
    exact others

/-- What RESTART stores and clears (R148, R164). -/
theorem State.restart_clears {s : State} (custody : s.Custody) (posts : ∀ w ∈ s.agent.posted, w.table ≤ 3) :
    let t := s.restart
    t.store.recordNo = s.store.recordNo + BitVec.ofNat 32 (s.cycling.length + s.charges.length) ∧
    (∀ e ∈ s.charges, t.store.slots[e.slot].holdsDiscarded s e) ∧ (∀ p : PressNo, t.presses[p].halt = .none) ∧
    t.own = s.own ∧ t.charges = [] ∧ t.drain0 = { s.drain0 with running := false } ∧ t.line.hold = .off ∧
    t.weigh.recipe = none ∧
    t.pace = some { start := s.now, dur := s.tables.sys.paceUnit * s.tables.sys.paceFactor } ∧
    ((∀ j : Fin 4, t.agent.contexts[j] = none) ∧ (∀ j : Fin 4, t.agent.marks[j] = none) ∧ t.agent.turn = 0 ∧
      t.agent.responses = s.agent.responses ∧ t.agent.acc = s.agent.acc) ∧
    t.notices = { queue := [], mask := s.notices.mask, latches := .clear, counters := Vector.replicate 12 0,
                  half := Vector.replicate 12 false } ∧
    t.census = { Census.reset with passLatch := s.census.passLatch } := by
  intro t
  have idled := State.cyclesRestarted_idled custody posts
  have discarded := State.restart_discards custody posts
  have store : t.store = s.cyclesRestarted.discardAll.store :=
    s.restart_atRest.store.trans ((State.allToIdle_only _).store rfl)
  have halts (p : PressNo) : t.presses[p].halt = .none := congrArg Press.halt (State.restartRest_presses _ p)
  have queue : s.cyclesRestarted.discardAll.allToIdle.charges = [] :=
    ((State.allToIdle_only _).charges rfl).trans (discarded.only.charges rfl)
  have sys : s.cyclesRestarted.discardAll.allToIdle.tables.sys = s.tables.sys := by
    obtain ⟨-, -, -, sys⟩ := tables_after_posted posts s.tables
    rw [idled.tables, sys]
  have others := (State.settled_agent posts).2
  obtain ⟨own, charges, drain0, hold, recipe, pace, agent, notices, census⟩ :=
    s.cyclesRestarted.discardAll.allToIdle.restartRest_clears
  rw [← State.restart_eq] at own charges drain0 hold recipe pace agent notices census
  rw [idled.agent] at agent
  refine ⟨?_, fun e queued => ?_, halts, own.trans (idled.only.own rfl), charges.trans queue, ?_, hold, recipe, ?_,
    ⟨fun j => ?_, fun j => ?_, ?_, ?_, ?_⟩, ?_, ?_⟩
  · rw [store, State.restart_recordNo custody posts]
  · rw [store]
    exact State.restart_charges custody posts queued
  · rw [drain0, idled.only.drain0 rfl]
  · rw [pace, sys, idled.only.now rfl]
  · rw [agent]
    exact Vector.getElem_replicate j.isLt
  · rw [agent]
    exact Vector.getElem_replicate j.isLt
  · rw [agent]
  · rw [agent]
    exact (congrArg Agent.responses others :)
  · rw [agent]
    exact (congrArg Agent.acc others :)
  · rw [notices, idled.stopping.mask]
  · rw [census, idled.only.census rfl]

/-! ### The obligation -/

theorem exec_modeStop {s : State} {src : Addr} {i : Fin 4} (tag force : Byte) (served : s.serves src i true = true) :
    exec (.modeStop src tag force) s = .next (finish src tag 10 (s.doModeStop (force.getLsbD 0))).kick := by
  have flag : (force.toNat % 2 == 1) = force.getLsbD 0 := by
    rw [BitVec.getLsbD, Nat.testBit_zero]
    rfl
  rw [← flag]
  exact management_of_serves tag served (fun _ => rfl) rfl

theorem exec_restart {s : State} {src : Addr} {i : Fin 4} (tag : Byte) (served : s.serves src i true = true) :
    exec (.restart src tag) s = .next (finish src tag 11 s.doRestart).kick :=
  management_of_serves tag served (fun _ => rfl) rfl

theorem State.doModeStop_refused {s : State} {force : Bool}
    (no : s.mode = .config ∨ (force = false ∧ s.cycling.length ≠ 0)) : s.doModeStop force = s.refused .badState := by
  rw [State.doModeStop]
  obtain config | ⟨rfl, cycling⟩ := no
  · rw [if_pos (by rw [config]; rfl)]
  · have under : (!false && !s.cycling.isEmpty) = true := by
      simpa using mt List.length_eq_zero_iff.mpr cycling
    rw [if_pos under, ite_self]

theorem State.doModeStop_taken {s : State} {force : Bool} (run : s.mode = .run)
    (may : force = true ∨ s.cycling.length = 0) :
    s.doModeStop force = s.modeStop.okWith [byteOf s.cycling.length] := by
  have free : ¬(!force && !s.cycling.isEmpty) = true := by
    obtain rfl | none := may
    · simp
    · simp [List.length_eq_zero_iff.mp none]
  rw [State.doModeStop, if_neg (by rw [run]; decide), if_neg free]

/-- Settles O51: both operations reach a state with every press IDLE, from which the mode changes; the refusals, the
halts and what RESTART clears are added to it. -/
theorem modeStopAndRestart : Obligations.ModeStopAndRestart := by
  intro s src tag i served custody posts cycling stopped stop
  have count : s.cycling.length = cycling := by
    have all : allPresses = List.finRange 4 := by decide
    rw [State.cycling, all]
    rfl
  have reached {u t : State} (idled : Idled s u) (rest : AtRest u t) : stopped t := by
    obtain ⟨rt, pt, gt, sys⟩ := tables_after_posted posts s.tables
    have tables := rest.tables.trans idled.tables
    have line := idled.stopping.line
    refine ⟨rest.mode, by rw [rest.posted, idled.agent, State.settled_posted], tables, by rw [tables, rt],
      by rw [tables, pt], by rw [tables, gt], by rw [tables, sys], fun p => ?_, fun p z mem => ?_, ?_, ?_, ?_, ?_,
      rest.weigh, fun p n inCycle slot => ?_, ?_, ?_, ?_, ?_⟩
    · have stays := idled.stopping.press p
      rw [idled.idle p, ← rest.presses p] at stays
      exact stays
    · obtain ⟨q, cleared⟩ := idled.zones p z (by rw [idled.tables, pt]; exact mem)
      rw [rest.zones, cleared]
      exact ⟨rfl, rfl, rfl, rfl, rfl⟩
    · rw [rest.line]
    · rw [rest.line]
      exact idled.stopping.labels
    · rw [rest.line]
      exact congrArg (fun l : Line => { l with burst := s.line.burst, hold := s.line.hold }) line
    · rw [rest.line]
      exact idled.stopping.down
    · rw [rest.store]
      exact idled.records p n inCycle slot
    · rw [rest.store, idled.stopping.serial]
    · rw [rest.store, idled.stopping.chargeNo]
    · rw [rest.watches.1, idled.only.sync rfl]
    · rw [rest.watches.2, idled.only.loss rfl]
  have answer (t : State) (own : t.own = s.own) (op : Byte) (data : List Byte) :
      finish src tag op (t.okWith data) = t.answered (okFrame s.own src tag op data) := by
    rw [← own]
    rfl
  refine ⟨fun force no => ?_, fun force run may => ?_, ?_⟩
  · rw [exec_modeStop tag force served, State.doModeStop_refused (by rw [count]; exact no)]
    rfl
  · have idled := State.cyclesStopped_idled custody posts
    have only := State.modeStop_only custody posts
    obtain ⟨recordNo, hold, recipe, contexts, others⟩ := State.modeStop_keeps custody posts
    refine ⟨s.modeStop, ?_, reached idled s.modeStop_atRest, by rw [recordNo, count], only.charges rfl, only.census rfl,
      only.drain0 rfl, only.pace rfl, hold, recipe,
      fun p => ⟨fun ejecting => ?_, State.modeStop_halt_other posts⟩, contexts, others⟩
    · rw [exec_modeStop tag force served, State.doModeStop_taken run (by rw [count]; exact may),
        answer _ (only.own rfl), count]
    · rw [State.modeStop_halt_ejecting posts ejecting]
      exact ⟨rfl, s.orderHalt_ne_none p⟩
  · have idled := State.cyclesRestarted_idled custody posts
    obtain ⟨recordNo, records, halts, own, charges, drain0, hold, recipe, pace, agent, notices, census⟩ :=
      State.restart_clears custody posts
    obtain ⟨contexts, marks, turn, responses, acc⟩ := agent
    refine ⟨s.restart, ?_, reached idled s.restart_atRest, by rw [recordNo, count], charges, records, halts, drain0,
      hold, recipe, pace, fun j => ⟨contexts j, marks j⟩, turn, responses, acc, notices, census⟩
    rw [exec_restart tag served, State.doRestart, answer _ own, count]

end Sys2Proof.Machine

/-! ## Laws of the ejection monitor (R121 to R125, R127, R128) -/

namespace Sys2Proof.Machine

open Sys2Proof

section
variable {s : State} {p : PressNo}

/-! ### The halt that is ordered (R125) -/

theorem State.ejectStands_iff : s.ejectStands p = true ↔ ∃ d ∈ s.line.down, d.strokeOf = some p := by
  simp only [State.ejectStands, List.any_eq_true, beq_iff_eq]

/-- An order touches the DOWN buffer only to tie the halt to the EJECT it waits for. -/
theorem State.orderHalt_line_eq (s : State) (p : PressNo) :
    (s.orderHalt p).line =
      if s.ejectStands p = true then { s.line with down := tieHalt p s.line.down } else s.line := by
  unfold State.orderHalt
  dsimp only
  split
  · rfl
  · split
    · rfl
    · rfl

/-- After the tie the halt awaits the EJECT of the press's latest stroke and no other frame. -/
theorem mem_tieHalt_awaitedBy {down : List DownItem} {d : DownItem} (mem : d ∈ tieHalt p down) :
    d.awaitedBy = some p ↔ d.strokeOf = some p := by
  obtain ⟨x, -, rfl⟩ := List.mem_map.mp mem
  by_cases stroke : x.strokeOf = some p
  · simp [stroke]
  · by_cases awaited : x.awaitedBy = some p
    · simp [stroke, awaited]
    · simp [stroke, awaited]

/-! ### Entering STUCK (R123) -/

theorem StuckCause.mark_eq (c : StuckCause) (y : CycleRecord) :
    c.mark y = { y with guardOpened := y.guardOpened || c == .guard, lineLoss := y.lineLoss || c == .line } := by
  cases c with
  | force | guard | line | timeout => simp [StuckCause.mark, beq_eq_decide]

/-- The press that has been stopped, before its state changes and its halt is ordered (R123). -/
def Press.stopped (q : Press) (c : StuckCause) : Press :=
  { q with ejectT := none, debounce := 0, stuckCause := some c, cycle := q.cycle.map c.mark }

/-- A press in EJECTING is stopped, its halt is ordered, and it moves to STUCK. -/
theorem State.enterStuck_eq (c : StuckCause) (ejecting : s.presses[p].state = .ejecting) :
    let halted := (s.updPress p (·.stopped c)).orderHalt p
    s.enterStuck p c =
      (halted.moved p { halted.presses[p] with state := .stuck }).raise .ejectStuck p.val c.code := by
  intro halted
  have state : halted.presses[p].state = s.presses[p].state := by
    rw [State.orderHalt_self, State.updPress_self]
    rfl
  have moves : halted.setPressState p .stuck = halted.moved p { halted.presses[p] with state := .stuck } :=
    State.setPressState_moved (by rw [state, ejecting]; decide)
  rw [State.enterStuck, State.updCycle, State.updPress_updPress, ← moves]
  rfl

theorem State.enterStuck_press (c : StuckCause) (ejecting : s.presses[p].state = .ejecting) :
    (s.enterStuck p c).presses[p] = { s.presses[p].stopped c with
      state := .stuck, halt := (s.orderHalt p).presses[p].halt } := by
  rw [State.enterStuck_eq c ejecting, State.raise_presses, State.moved_self, State.orderHalt_self,
    State.updPress_self, State.orderHalt_self]
  rfl

theorem State.enterStuck_other {q : PressNo} (c : StuckCause) (ejecting : s.presses[p].state = .ejecting)
    (other : q ≠ p) : (s.enterStuck p c).presses[q] = s.presses[q] := by
  rw [State.enterStuck_eq c ejecting, State.raise_presses, State.moved_other _ _ other, State.orderHalt_other other,
    State.updPress_other _ _ other]

theorem State.enterStuck_line (c : StuckCause) (ejecting : s.presses[p].state = .ejecting) :
    (s.enterStuck p c).line = (s.orderHalt p).line := by
  have halted : (s.enterStuck p c).line = ((s.updPress p (·.stopped c)).orderHalt p).line := by
    rw [State.enterStuck_eq c ejecting]
    rfl
  rw [halted, State.orderHalt_line_eq, State.orderHalt_line_eq]
  rfl

theorem State.enterStuck_notices (c : StuckCause) (ejecting : s.presses[p].state = .ejecting) :
    (s.enterStuck p c).notices = ((s.raise .pressState p.val 8).raise .ejectStuck p.val c.code).notices := by
  have halted := (s.updPress p (·.stopped c)).orderHalt_only p
  have now : ((s.updPress p (·.stopped c)).orderHalt p).now = s.now := halted.now rfl
  have notices : ((s.updPress p (·.stopped c)).orderHalt p).notices = s.notices := halted.notices rfl
  rw [State.enterStuck_eq c ejecting]
  simp only [State.moved, State.raise, State.updNotices, now, notices]
  rfl

theorem exec_ejectTimerExpiry (p : PressNo) (high : s.rstn = true) :
    exec (.ejectTimerExpiry p) s = .next (s.ejectExpiry p).kick := event_of_high _ high

theorem State.ejectExpiry_due (due : timerDue s.now s.presses[p].ejectT = true)
    (state : s.presses[p].state = .ejecting) : s.ejectExpiry p = s.enterStuck p .timeout :=
  if_pos (by rw [due, state]; rfl)

/-! ### Force readings (R121, R122) -/

section
variable {f : Nat} {r : RecipeNo} {t0 : Time}

theorem State.forceReading_untested (away : s.presses[p].state ≠ .ejecting) : s.forceReading p f = s := by
  have state : (s.presses[p].state == .ejecting) = false := beq_eq_false_iff_ne.mpr away
  rw [State.forceReading, state]

/-- A reading above the peak limit is an overforce at once (R122). -/
theorem State.forceReading_over (ejecting : s.presses[p].state = .ejecting)
    (recipe : s.presses[p].recipe = some r) (start : s.presses[p].ejectStart = some t0)
    (high : s.tables.rt[r].peakLimit < f) :
    s.forceReading p f =
      (s.updPress p (·.trackPeak f (segmentAt s.now t0 s.tables.rt[r].segLen))).enterStuck p .force := by
  have state : (s.presses[p].state == .ejecting) = true := beq_iff_eq.mpr ejecting
  simp only [State.forceReading, state, State.recipeOf_of recipe, start, if_pos high]

/-- A reading up to the peak limit makes the debounce count `run`, and is an overforce when that is the recipe's. -/
theorem State.forceReading_counted (ejecting : s.presses[p].state = .ejecting)
    (recipe : s.presses[p].recipe = some r) (start : s.presses[p].ejectStart = some t0)
    (low : f ≤ s.tables.rt[r].peakLimit) :
    let k := segmentAt s.now t0 s.tables.rt[r].segLen
    ∀ run, (if s.tables.rt[r].segMax.getD k 0 < f then s.presses[p].debounce + 1 else 0) = run →
      let counted := s.updPress p (fun q => { q.trackPeak f k with debounce := run })
      s.forceReading p f = if s.tables.rt[r].debounce ≤ run then counted.enterStuck p .force else counted := by
  rintro k run rfl
  have state : (s.presses[p].state == .ejecting) = true := beq_iff_eq.mpr ejecting
  simp only [State.forceReading, state, State.recipeOf_of recipe, start, if_neg (Nat.not_lt.mpr low),
    State.updPress_updPress, k]

theorem Press.trackPeak_debounce (q : Press) (f k : Nat) :
    { q.trackPeak f k with debounce := q.debounce } = q.trackPeak f k := by
  unfold Press.trackPeak
  split
  · rfl
  · rfl

end

/-! ### Ejector positions (R127, R128) -/

section
variable {n : SlotNo} {c : CycleRecord} {r : RecipeNo} {v : Nat}

/-- The label of a made panel joins the release list where the press has a marker (R127 step 4). -/
def State.labelled (s : State) (p : PressNo) (c : CycleRecord) (r : RecipeNo) (serial : Number) : State :=
  { s with line := if s.tables.pt[p].marker = 0 then s.line else { s.line with release := s.line.release ++ [
    { press := p, kind := .label,
      frame := buildFrame s.own s.tables.pt[p].marker kindLabl
        (toBytes 4 serial.toNat ++ [byteOf p.val, byteOf r.val] ++ toBytes 2 c.chargeNo.toNat) }] } }

theorem State.labelled_frame (s : State) (serial : Number) (cycle : s.presses[p].cycle = some c)
    (recipe : s.presses[p].recipe = some r) :
    (if s.tables.pt[p].marker != 0 then s.labelFrame p serial else s) = s.labelled p c r serial := by
  rw [State.labelled, State.labelFrame, cycle, recipe]
  by_cases none : s.tables.pt[p].marker = 0
  · rw [if_pos none, none]
    rfl
  · rw [if_neg none, if_pos (bne_iff_ne.mpr none)]
    rfl

/-- A made panel: the serial is taken, the label queued, and the press moves to UNLOADING (R127). -/
theorem State.ejectorOut_eq (carries : s.carries p n c r = true) (changes : s.presses[p].state ≠ .unloading) :
    s.ejectorOut p =
      (({ s with store := { s.store with serial := s.store.serial + 1 } } : State).labelled p c r
        s.store.serial).moved p { s.presses[p] with
          state := .unloading, ejectT := none, cycle := some { c with serial := some s.store.serial } } := by
  obtain ⟨-, cycle, recipe⟩ := State.carries_iff.mp carries
  let taken : State := { s with store := { s.store with serial := s.store.serial + 1 } }
  let made : Press → Press := fun q =>
    { q with ejectT := none, cycle := q.cycle.map (fun c => { c with serial := some s.store.serial }) }
  have before : s.ejectorOut p =
      (if s.tables.pt[p].marker != 0 then (taken.updPress p made).labelFrame p s.store.serial
        else taken.updPress p made).setPressState p .unloading := by
    rw [State.ejectorOut, State.updCycle, State.updPress_updPress]
    rfl
  have made_cycle : (taken.updPress p made).presses[p].cycle = some { c with serial := some s.store.serial } := by
    rw [State.updPress_self]
    exact congrArg (Option.map _) cycle
  have made_recipe : (taken.updPress p made).presses[p].recipe = some r := by rwa [State.updPress_self]
  have label := (taken.updPress p made).labelled_frame s.store.serial made_cycle made_recipe
  calc s.ejectorOut p
      = ((taken.updPress p made).labelled p c r s.store.serial).setPressState p .unloading := by
        rw [before]
        exact congrArg (State.setPressState · p .unloading) label
    _ = (taken.labelled p c r s.store.serial).moved p { made s.presses[p] with state := .unloading } :=
        State.updPress_setPressState (s := taken.labelled p c r s.store.serial) (f := made) changes
    _ = _ := by simp only [made, cycle, Option.map_some, taken]

/-- A position that does not move its press on changes nothing. -/
theorem State.posReading_idle (out : ¬(s.presses[p].state = .ejecting ∧ s.tables.pt[p].outAt ≤ v))
    (home : ¬(s.presses[p].state = .unloading ∧ v ≤ s.tables.pt[p].homeAt)) : s.posReading p v = s := by
  cases state : s.presses[p].state with
  | ejecting => simp only [State.posReading, state, if_neg fun reached => out ⟨state, reached⟩]
  | unloading => simp only [State.posReading, state, if_neg fun reached => home ⟨state, reached⟩]
  | idle | ready | closing | curing | cured | opening | opened | stuck => simp only [State.posReading, state]

theorem State.posReading_out (state : s.presses[p].state = .ejecting) (reached : s.tables.pt[p].outAt ≤ v) :
    s.posReading p v = s.ejectorOut p := by
  simp only [State.posReading, state, if_pos reached]

theorem State.posReading_home (state : s.presses[p].state = .unloading) (reached : v ≤ s.tables.pt[p].homeAt) :
    s.posReading p v = s.finalise p (if s.presses[p].override then .override else .good) .ready := by
  simp only [State.posReading, state, if_pos reached]

end

end

/-! ### The obligations -/

/-- Settles O27: the press, the line and the notices of the move to STUCK, and the halt by whether the EJECT of the
stroke still stands. -/
theorem stuckAndHalt : Obligations.StuckAndHalt := by
  refine fun s p => ⟨rfl, fun c ejecting => ⟨?_, State.enterStuck_notices c ejecting,
    fun q other => State.enterStuck_other c ejecting other, ?_, fun gone => ?_, fun stands => ?_⟩,
    fun high due state => ?_, fun high idle => ?_⟩
  · exact (s.enterStuck_only p c).widen rfl
  · rw [State.enterStuck_press c ejecting]
    simp only [Press.stopped, funext c.mark_eq]
  · have gone : ¬s.ejectStands p = true := fun stands =>
      have ⟨d, mem, stroke⟩ := State.ejectStands_iff.mp stands
      gone d mem stroke
    constructor
    · rw [State.enterStuck_line c ejecting, State.orderHalt_line_eq, if_neg gone]
    · rw [State.enterStuck_press c ejecting, State.orderHalt_self, if_neg gone]
  · have stands : s.ejectStands p = true := State.ejectStands_iff.mpr stands
    rw [State.enterStuck_press c ejecting, State.enterStuck_line c ejecting]
    refine ⟨s.orderHalt_line p, s.orderHalt_down p, fun d mem => ?_, ?_⟩
    · rw [State.orderHalt_line_eq, if_pos stands] at mem
      exact mem_tieHalt_awaitedBy mem
    · rw [State.orderHalt_self, if_pos stands]
  · rw [exec_ejectTimerExpiry p high, State.ejectExpiry_due due state]
  · rw [exec_ejectTimerExpiry p high, State.ejectExpiry, if_neg (expiry_idle idle)]

/-- Settles O30: the made panel, the ejector home, and any other position. -/
theorem ejectorPositions : Obligations.EjectorPositions := by
  refine fun s p n c r v carries => ⟨fun state reached => ?_, fun state reached => ?_, fun out home =>
    State.posReading_idle out home⟩
  · have changes : s.presses[p].state ≠ .unloading := by rw [state]; decide
    rw [State.posReading_out state reached]
    refine ⟨(s.ejectorOut_only p).widen rfl, ?_⟩
    rw [State.ejectorOut_eq carries changes]
    exact ⟨rfl, rfl, rfl, fun none => if_pos none, fun marker => if_neg marker⟩
  · have changes : s.presses[p].state ≠ .ready := by rw [state]; decide
    rw [State.posReading_home state reached]
    exact ⟨s.finalise_only _ _ _, State.finalise_finalised _ carries changes,
      State.finalise_halt_notices _ carries changes⟩

/-- Settles O31: the reading's segment and peak, then the peak limit and the debounce count in their order. -/
theorem forceReadings : Obligations.ForceReadings := by
  refine fun s p f => ⟨State.forceReading_untested, fun r t0 ejecting recipe start positive => ?_⟩
  intro recipe' k q after
  have counted (low : f ≤ recipe'.peakLimit) := State.forceReading_counted ejecting recipe start low
  have overforce (high : recipe'.peakLimit < f) := State.forceReading_over ejecting recipe start high
  have same : after s.presses[p].debounce = s.updPress p (·.trackPeak f k) :=
    congrArg (fun x => ({ s with presses := s.presses.set p x } : State)) (Press.trackPeak_debounce ..)
  refine ⟨fun high => (overforce high).trans (congrArg (State.enterStuck · p .force) same.symm),
    fun low calm => ?_, fun low high early => ?_, fun low high last => ?_⟩
  · exact (counted low 0 (if_neg (Nat.not_lt.mpr calm))).trans (if_neg (Nat.not_le.mpr positive))
  · exact (counted low _ (if_pos high)).trans (if_neg (Nat.not_le.mpr early))
  · exact (counted low _ (if_pos high)).trans (if_pos last)

end Sys2Proof.Machine

/-! ## Laws of the short reads (R129, R161, R169, R170, R173) -/

namespace Sys2Proof.Machine

open Sys2Proof

/-! ### A short answer -/

/-- An operation that a served requester may ask for and that succeeds is answered OK by one frame (R150, R152). -/
theorem management_okWith {s t : State} {src : Addr} {i : Fin 4} {write : Bool} {r : Req} {data : List Byte}
    (tag : Byte) (served : s.serves src i write = true) (allowed : writingOperation r.code = true → write = true)
    (size : r.argsOk = true) (done : s.perform i src tag r = t.okWith data) (own : t.own = s.own) :
    management src tag r s = .next (t.answered (okFrame s.own src tag (byteOf r.code) data)).kick := by
  rw [management_of_serves tag served allowed size, done, ← own]
  rfl

/-! ### The next record of a drain channel (R137) -/

section
variable {t : Store} {f : Delivery → Bool} {k : SlotNo}

theorem Store.numberAt_stored {r : Record} {d : Delivery} (slot : t.slots[k] = .stored r d) :
    t.numberAt f k = if f d then some r.number else none := by
  rw [Store.numberAt, slot]

/-- The slot that a step of the search has found holds a record that satisfies `f`. -/
theorem Store.betterSlot_numberAt {before : Number → Number → Bool} {best : Option SlotNo} {i : SlotNo}
    (found : ∀ b, best = some b → (t.numberAt f b).isSome) :
    ∀ b, t.betterSlot f before best i = some b → (t.numberAt f b).isSome := by
  intro b better
  unfold Store.betterSlot at better
  split at better
  next a _ here _ =>
    split at better
    · cases better
      rw [here]
      rfl
    · exact found b better
  next a here _ =>
    cases better
    rw [here]
    rfl
  next => exact found b better

theorem Store.oldest_numberAt (oldest : t.oldest f = some k) : (t.numberAt f k).isSome :=
  have start : ∀ b : SlotNo, none = some b → (t.numberAt f b).isSome := nofun
  List.foldlRecOn (motive := fun best => ∀ b, best = some b → (t.numberAt f b).isSome) allSlots
    (t.betterSlot f precedes) start (fun _ found _ _ => Store.betterSlot_numberAt found) k oldest

/-- The number that STATUS gives for the next record, 0 where there is none (R178). -/
def Store.nextNumber (t : Store) (f : Delivery → Bool) : Number := ((t.oldest f).bind (t.numberAt f)).getD 0

theorem nextBytes_oldest (t : Store) (f : Delivery → Bool) :
    nextBytes t f (t.oldest f) = flagByte (t.oldest f).isSome :: toBytes 4 (t.nextNumber f).toNat := by
  unfold nextBytes Store.nextNumber
  cases oldest : t.oldest f with
  | none => rfl
  | some k =>
    obtain ⟨a, number⟩ := Option.isSome_iff_exists.mp (Store.oldest_numberAt oldest)
    simp only [Option.bind_some, number]
    rfl

theorem Store.nextNumber_of_oldest {r : Record} {d : Delivery} (oldest : t.oldest f = some k)
    (slot : t.slots[k] = .stored r d) : t.nextNumber f = r.number := by
  have number := Store.oldest_numberAt oldest
  rw [Store.numberAt_stored slot] at number
  have owed : f d = true := by
    by_contra no
    rw [if_neg no] at number
    exact Bool.false_ne_true number
  rw [Store.nextNumber, oldest, Option.bind_some, Store.numberAt_stored slot, if_pos owed]
  rfl

theorem Store.nextNumber_of_none (none : t.oldest f = none) : toBytes 4 (t.nextNumber f).toNat = [0, 0, 0, 0] := by
  rw [Store.nextNumber, none]
  exact toBytes_four_zero

end

/-! ### STATUS (R170, Table 110) -/

theorem allPresses_eq : allPresses = List.finRange 4 := by decide

/-- An entry of a table written out in a list, in the order of its numbers. -/
theorem getD_map_finRange {n : Nat} {α : Type} (f : Fin n → α) (i : Fin n) (rest : List α) (x : α) :
    ((List.finRange n).map f ++ rest).getD i.val x = f i := by
  have inside : i.val < ((List.finRange n).map f ++ rest).length := by simp; omega
  rw [List.getD_eq_getElem _ _ inside, List.getElem_append_left (by simp)]
  simp

/-- What STATUS reports behind the zones, from offset 21 on. -/
def State.statusTail (s : State) : List Byte :=
  [byteOf s.charges.length, byteOf (s.store.countSlots Slot.isFree), byteOf (s.store.countSlots Slot.isReserved),
    byteOf (s.store.countSlots Slot.isStored), flagByte s.drain0.running, optByte (s.drain0.mode.map (·.code)),
    optByte (s.drain0.dest.map (·.toNat)), byteOf s.drain0.remaining, byteOf s.drain0.delivered,
    flagByte s.store.next0.isSome] ++ toBytes 4 (s.store.nextNumber Delivery.undelivered0).toNat ++
  [flagByte (s.tables.sys.recorder != 0), flagByte s.pace.isSome, byteOf s.store.owing,
    flagByte s.store.next1.isSome] ++ toBytes 4 (s.store.nextNumber Delivery.owing1).toNat ++
  [flagByte s.loss.lost, causesByte s.loss, flagByte s.sync.lost, byteOf s.census.state.code,
    flagByte s.census.passLatch, byteOf s.notices.queue.length, latchesByte s.notices.latches]

theorem State.statusData_eq (s : State) : s.statusData =
    [byteOf s.mode.code] ++ ((List.finRange 4).map (fun p : PressNo => byteOf s.presses[p].state.code) ++
      ((List.finRange 16).map (fun z : ZoneNo => byteOf s.zones[z].state.code) ++ s.statusTail)) := by
  have next0 : nextBytes s.store Delivery.undelivered0 s.store.next0 = _ := nextBytes_oldest ..
  have next1 : nextBytes s.store Delivery.owing1 s.store.next1 = _ := nextBytes_oldest ..
  rw [State.statusData, State.drain0Status, State.drain1Status, next0, next1, allPresses_eq, allZones_eq]
  simp only [State.statusTail, Store.next0, Store.next1, List.append_assoc, List.cons_append, List.nil_append]

/-- The bytes of STATUS behind the zones stand 21 places further on in the whole. -/
theorem State.statusData_drop (s : State) : s.statusData.drop 21 = s.statusTail := by
  rw [State.statusData_eq]
  rfl

theorem byteOf_addr (a : Addr) : byteOf a.toNat = addrByte a := BitVec.ofNat_toNat 8 a

theorem State.statusData_press (s : State) (p : PressNo) :
    s.statusData.getD (1 + p.val) 0 = byteOf s.presses[p].state.code := by
  rw [State.statusData_eq, Nat.add_comm]
  exact getD_map_finRange (fun p : PressNo => byteOf s.presses[p].state.code) p _ 0

theorem State.statusData_zone (s : State) (z : ZoneNo) :
    s.statusData.getD (5 + z.val) 0 = byteOf s.zones[z].state.code := by
  rw [State.statusData_eq, Nat.add_comm]
  exact getD_map_finRange (fun z : ZoneNo => byteOf s.zones[z].state.code) z _ 0

/-! ### The obligation -/

/-- Settles O44: the five answers; STATUS is read byte by byte from its presses, its zones and what stands behind. -/
theorem shortReads : Obligations.ShortReads := by
  intro s src tag i served
  refine ⟨management_okWith (r := .ident) tag served id rfl rfl rfl, ⟨s.statusData, ?_,
    management_okWith (r := .status) tag served id rfl rfl rfl, ?_⟩,
    management_okWith (r := .counters) tag served id rfl rfl rfl, fun write =>
    ⟨fun m => management_okWith (r := .noticeEnable m) tag write id rfl rfl rfl,
      fun v => management_okWith (r := .serialBase v) tag write id rfl rfl rfl⟩⟩
  · rw [State.statusData_eq]
    rfl
  · have tail (k : Nat) : s.statusData.getD (21 + k) 0 = s.statusTail.getD k 0 := by
      rw [← s.statusData_drop, List.getD_eq_getElem?_getD, List.getD_eq_getElem?_getD, List.getElem?_drop]
    have part (k : Nat) : (s.statusData.drop (21 + k)).take 4 = (s.statusTail.drop k).take 4 := by
      rw [← s.statusData_drop, List.drop_drop]
    have mode : s.statusData.getD 26 0 = optByte (s.drain0.mode.map (·.code)) := tail 5
    have dest : s.statusData.getD 27 0 = optByte (s.drain0.dest.map (·.toNat)) := tail 6
    have number0 : (s.statusData.drop 31).take 4 = toBytes 4 (s.store.nextNumber Delivery.undelivered0).toNat := part 10
    have number1 : (s.statusData.drop 39).take 4 = toBytes 4 (s.store.nextNumber Delivery.owing1).toNat := part 18
    refine ⟨?_, s.statusData_press, s.statusData_zone, tail 0, tail 1, tail 2, tail 3, fun m ran => ?_,
      fun none => ?_, fun a ran => ?_, fun none => ?_, fun k r x next slot => ?_,
      fun none => number0.trans (Store.nextNumber_of_none none), tail 16, fun k r x next slot => ?_,
      fun none => number1.trans (Store.nextNumber_of_none none), tail 4, tail 7, tail 8, tail 9, tail 14, tail 15,
      tail 17, tail 22, tail 23, tail 24, tail 25, tail 26, tail 27, tail 28⟩
    · rw [State.statusData_eq]
      rfl
    · rw [mode, ran]
      rfl
    · rw [mode, none]
      rfl
    · rw [dest, ran]
      exact byteOf_addr a
    · rw [dest, none]
      rfl
    · rw [number0, Store.nextNumber_of_oldest next slot]
    · rw [number1, Store.nextNumber_of_oldest next slot]

end Sys2Proof.Machine

/-! ## Laws of requests: a management row is its request frame (R150, R176; log 23) -/

namespace Sys2Proof.Machine

open Sys2Proof

/-! ### Numbers in argument bytes (R176) -/

theorem foldl_toBytes (size n start : Nat) :
    (toBytes size n).foldl (fun n b => n * 256 + b.toNat) start = start * 256 ^ size + n % 256 ^ size := by
  induction size generalizing start with
  | zero => simp [toBytes, Nat.mod_one]
  | succ size ih =>
    have high : n % 256 ^ (size + 1) = n % 256 ^ size + 256 ^ size * (n / 256 ^ size % 256) := by
      rw [Nat.pow_succ, Nat.mod_mul]
    rw [toBytes, List.foldl_cons, ih, high, BitVec.toNat_ofNat, Nat.pow_succ]
    ring

theorem ofBytes_toBytes {size n : Nat} (small : n < 256 ^ size) : ofBytes (toBytes size n) = n := by
  rw [ofBytes, foldl_toBytes, Nat.zero_mul, Nat.zero_add, Nat.mod_eq_of_lt small]

/-- A value of `8 * size` bits is read back from the bytes it is sent as. -/
theorem ofNat_ofBytes_toBytes {w size : Nat} (x : BitVec w) (width : 2 ^ w = 256 ^ size) :
    BitVec.ofNat w (ofBytes (toBytes size x.toNat)) = x := by
  rw [ofBytes_toBytes (width ▸ x.isLt), BitVec.ofNat_toNat, BitVec.setWidth_eq]

/-! ### A row is its request (Table 107; log 23) -/

theorem parseReq_noticeEnable (m : BitVec 24) : parseReq 4 (toBytes 3 m.toNat) = some (.noticeEnable m) :=
  congrArg (fun m => some (Req.noticeEnable m)) (ofNat_ofBytes_toBytes (size := 3) m rfl)

theorem parseReq_chargeDiscard (n : ChargeNo) : parseReq 18 (toBytes 2 n.toNat) = some (.chargeDiscard n) :=
  congrArg (fun n => some (Req.chargeDiscard n)) (ofNat_ofBytes_toBytes (size := 2) n rfl)

theorem parseReq_release (n : Number) : parseReq 21 (toBytes 4 n.toNat) = some (.release n) :=
  congrArg (fun n => some (Req.release n)) (ofNat_ofBytes_toBytes (size := 4) n rfl)

theorem parseReq_recordRead (n : Number) : parseReq 22 (toBytes 4 n.toNat) = some (.recordRead n) :=
  congrArg (fun n => some (Req.recordRead n)) (ofNat_ofBytes_toBytes (size := 4) n rfl)

theorem parseReq_serialBase (v : Number) : parseReq 23 (toBytes 4 v.toNat) = some (.serialBase v) :=
  congrArg (fun v => some (Req.serialBase v)) (ofNat_ofBytes_toBytes (size := 4) v rfl)

/-- The request that a row carries out is the one its operation code and argument bytes spell. -/
theorem exec_row {c : Instr} {src : Addr} {tag code : Byte} {args : List Byte}
    (row : requestOf c = some (src, tag, code, args)) :
    ∃ r : Req, byteOf r.code = code ∧ parseReq code.toNat args = some r ∧ ∀ s, exec c s = management src tag r s := by
  cases c <;> cases row
  case noticeEnable m => exact ⟨_, rfl, parseReq_noticeEnable m, fun _ => rfl⟩
  case chargeDiscard n => exact ⟨_, rfl, parseReq_chargeDiscard n, fun _ => rfl⟩
  case release n => exact ⟨_, rfl, parseReq_release n, fun _ => rfl⟩
  case recordRead n => exact ⟨_, rfl, parseReq_recordRead n, fun _ => rfl⟩
  case serialBase v => exact ⟨_, rfl, parseReq_serialBase v, fun _ => rfl⟩
  all_goals exact ⟨_, rfl, rfl, fun _ => rfl⟩

/-- A row does what the agent does with a frame of its source and its request (R150). -/
theorem exec_row_takeMreq {c : Instr} {s : State} {src : Addr} {tag code : Byte} {args : List Byte} {f : Frame}
    (row : requestOf c = some (src, tag, code, args)) (high : s.rstn = true) (source : f.srcAddr = src)
    (payload : f.payload = tag :: code :: args) : exec c s = .next (s.takeMreq f).kick := by
  obtain ⟨r, rfl, parsed, runs⟩ := exec_row row
  have same : s.request src tag r = s.takeMreq f := by
    rw [State.takeMreq, payload, State.decidePayload, parsed, source]
    rfl
  rw [runs, management, event, if_pos high, same]

theorem requestOf_args_length {c : Instr} {src : Addr} {tag code : Byte} {args : List Byte}
    (row : requestOf c = some (src, tag, code, args)) (wf : c.wellFormed = true) : args.length ≤ 62 := by
  have write {x e : Byte} {content : List Byte} (fits : contentFits content = true) :
      (x :: e :: content).length ≤ 62 := by
    have room : content.length ≤ 60 := of_decide_eq_true fits
    simp only [List.length_cons]
    omega
  cases c <;> cases row
  case tableWrite => exact write wf
  case tableWriteIfMarked => exact write wf
  all_goals simp [length_toBytes]

/-! ### Addresses in a frame (R176) -/

theorem setWidth_addrByte (a : Addr) : (addrByte a).setWidth 6 = a := by
  rw [addrByte, BitVec.setWidth_setWidth_of_le _ (by decide), BitVec.setWidth_eq]

theorem buildFrame_dstAddr (own dst : Addr) (kind : Byte) (payload : List Byte) :
    (buildFrame own dst kind payload).dstAddr = dst := setWidth_addrByte dst

theorem buildFrame_srcAddr (own dst : Addr) (kind : Byte) (payload : List Byte) :
    (buildFrame own dst kind payload).srcAddr = own := setWidth_addrByte own

theorem buildFrame_crc (own dst : Addr) (kind : Byte) (payload : List Byte) :
    (buildFrame own dst kind payload).crc = crc16 (buildFrame own dst kind payload).body := by
  simp only [buildFrame, Frame.body]

/-! ### A sent frame passes the checks on U-in (R2 to R5) -/

theorem Frame.length_bytes (f : Frame) : f.bytes.length = f.payload.length + 6 := by
  simp [Frame.bytes, Frame.body, length_toBytes]

theorem Frame.length_body (f : Frame) : f.body.length = f.payload.length + 4 := by
  simp [Frame.body]

/-- A frame that fits the line and carries its CRC passes both checks as it was sent (R3). -/
theorem checkFrame_bytes {f : Frame} (sound : f.sound) : checkFrame f.bytes.length f.bytes true = .good f := by
  obtain ⟨fits, crc⟩ := sound
  have small : f.payload.length % 256 = f.payload.length := Nat.mod_eq_of_lt (by omega)
  have length : field f.bytes 3 1 = f.payload.length := by
    rw [field_one]
    exact small
  have atCrc : f.bytes.length - 2 = f.body.length := by rw [f.length_bytes, f.length_body]; omega
  have body : f.bytes.take (f.bytes.length - 2) = f.body := by rw [atCrc, Frame.bytes, List.take_left]
  have carried : field f.bytes (f.bytes.length - 2) 2 = f.crc.toNat := by
    rw [field, atCrc, Frame.bytes, List.drop_left, List.take_of_length_le (length_toBytes 2 _).le]
    exact ofBytes_toBytes f.crc.isLt
  have payload : (f.bytes.drop 4).take (f.bytes.length - 6) = f.payload := by
    rw [f.length_bytes, Nat.add_sub_cancel]
    exact List.take_left
  have framed : ¬(decide (f.bytes.length < 6) || decide (64 < f.payload.length) ||
      f.bytes.length != f.payload.length + 6 || !true) = true := by
    simpa [f.length_bytes] using fits
  rw [checkFrame, length, if_neg framed, body, carried, payload, ← crc, if_pos BEq.rfl]
  simp only [field_one, byteOf_byteAt, BitVec.ofNat_toNat, BitVec.setWidth_eq]
  rfl

/-- While a frame is no longer than the kept bytes, the checker keeps all of it. -/
theorem Checker.foldl_take (bs : List Byte) (c : Checker) (fits : c.count + bs.length ≤ 70) :
    bs.foldl Checker.take c = { c with count := c.count + bs.length, kept := c.kept ++ bs } := by
  induction bs generalizing c with
  | nil => simp
  | cons b bs ih =>
    rw [List.length_cons] at fits
    have kept : c.take b = { c with count := c.count + 1, kept := c.kept ++ [b] } := by
      rw [Checker.take, if_pos (by omega)]
    rw [List.foldl_cons, kept, ih _ (by simp only; omega)]
    simp [Nat.add_assoc, Nat.add_comm 1]

/-- The state with this U-in checker. -/
def State.withUChk (s : State) (c : Checker) : State := { s with line := { s.line with uChk := c } }

theorem Checker.feed_startDelim {c : Checker} (waiting : c.collecting = false) :
    c.feed .startDelim = (.started, none) := by
  obtain ⟨collecting, _, _⟩ := c
  cases waiting
  rfl

theorem Checker.feed_data {c : Checker} (collecting : c.collecting = true) (b : Byte) :
    c.feed (.data b) = (c.take b, none) := by
  obtain ⟨_, _, _⟩ := c
  cases collecting
  rfl

theorem State.uSymbol_of_feed_none {s : State} {x : Symbol} {c : Checker} (fed : s.line.uChk.feed x = (c, none)) :
    s.uSymbol x = s.withUChk c := by
  rw [State.uSymbol, fed]
  rfl

theorem State.foldl_uSymbol_data (s : State) (bs : List Byte) {c : Checker} (collecting : c.collecting = true) :
    (bs.map Symbol.data).foldl State.uSymbol (s.withUChk c) = s.withUChk (bs.foldl Checker.take c) := by
  induction bs generalizing c with
  | nil => rfl
  | cons b bs ih =>
    rw [List.map_cons, List.foldl_cons, List.foldl_cons,
      State.uSymbol_of_feed_none (s := s.withUChk c) (Checker.feed_data collecting b)]
    exact ih (c := c.take b) collecting

/-- A sound frame that comes while the U-in checker is in WAIT is disposed of as it was sent (R2, R3, R6). -/
theorem exec_uInFrame_sound {s : State} {f : Frame} (sound : f.sound) (high : s.rstn = true)
    (waiting : s.line.uChk.collecting = false) :
    exec (.uInFrame (frameSymbols f.bytes)) s = .next (s.uWait.uGood f).kick := by
  have fits : f.bytes.length ≤ 70 := by
    have payload := sound.1
    rw [f.length_bytes]
    omega
  have kept : f.bytes.foldl Checker.take .started =
      { collecting := true, count := f.bytes.length, kept := f.bytes } := by
    rw [Checker.foldl_take _ _ (by simpa [Checker.started] using fits)]
    simp [Checker.started]
  have ends : (s.withUChk { collecting := true, count := f.bytes.length, kept := f.bytes }).uSymbol .endDelim =
      (s.uWait.uFrame (checkFrame f.bytes.length f.bytes true)).kick := rfl
  have received : (frameSymbols f.bytes).foldl State.uSymbol s = (s.uWait.uGood f).kick := by
    rw [frameSymbols, List.cons_append, List.foldl_cons, List.foldl_append,
      State.uSymbol_of_feed_none (Checker.feed_startDelim waiting), State.foldl_uSymbol_data _ _ rfl, kept,
      List.foldl_cons, List.foldl_nil, ends, checkFrame_bytes sound, State.uFrame]
  change receive State.uSymbol (frameSymbols f.bytes) s = _
  rw [receive, if_pos high, received]

theorem State.uGood_mreq {s : State} {f : Frame} (own : f.dstAddr = s.own) (mreq : f.kind = kindMreq) :
    s.uGood f = s.takeMreq f := by
  have watched : s.watchSync f = s := by
    rw [State.watchSync, if_neg]
    rw [mreq]
    decide
  rw [State.uGood, if_pos (by simpa using own), watched, State.ownFrame, if_pos (by simpa using mreq)]

/-- Settles O7: the frame is sound and is received as sent, so that the agent takes the row's own request. -/
theorem rowsAreTheirRequestFrames : Obligations.RowsAreTheirRequestFrames := by
  intro c s src tag code args row wf high reset
  have sound : (buildFrame src s.own kindMreq ([tag, code] ++ args)).sound := by
    have fits := requestOf_args_length row wf
    refine ⟨?_, buildFrame_crc ..⟩
    simp only [buildFrame, List.cons_append, List.nil_append, List.length_cons]
    omega
  have waits : s.uWait = s := by rw [State.uWait, ← reset]
  rw [exec_uInFrame_sound sound high (by rw [reset]; rfl), waits,
    State.uGood_mreq (buildFrame_dstAddr src s.own kindMreq _) rfl,
    exec_row_takeMreq (f := buildFrame src s.own kindMreq ([tag, code] ++ args)) row high (buildFrame_srcAddr ..) rfl]

end Sys2Proof.Machine

/-! ## Laws of requests: the refusals (R150, R151) -/

namespace Sys2Proof.Machine

open Sys2Proof

theorem State.respond_denied (s : State) (dst : Addr) (tag op : Byte) :
    s.respond dst tag op .denied [] = s.answered (errFrame s.own dst tag op 7 []) := rfl

theorem State.requester_eq_none {s : State} {src : Addr}
    (unlisted : ∀ (i : Fin 4) e, s.agent.acc[i] = some e → e.addr ≠ src) : s.requester src = none := by
  refine List.find?_eq_none.mpr fun i _ => ?_
  rw [Option.any_eq_true]
  rintro ⟨e, entry, same⟩
  exact unlisted i e entry (by simpa using same)

/-- The operations of fixed length, each with the number of its argument bytes (Table 107). -/
def fixedLengths : List (Nat × Nat) :=
  [(1, 0), (2, 0), (3, 0), (4, 3), (5, 3), (6, 2), (9, 0), (10, 1), (11, 0), (12, 0), (13, 2), (14, 1), (15, 1),
    (16, 1), (17, 0), (18, 2), (19, 2), (20, 0), (21, 4), (22, 4), (23, 4)]

/-- The argument bytes have the length that Table 107 gives their operation; that of a table write is its entry's. -/
def ArgsFit (code : Byte) (args : List Byte) : Prop :=
  (code.toNat, args.length) ∈ fixedLengths ∨
    ((code = 7 ∨ code = 8) ∧ ∃ x a content, args = x :: a :: content ∧ writeSize x.toNat = some content.length)

/-- By the number of argument bytes, of which no operation but a table write takes five or more. -/
theorem parseReq_eq_none {code : Nat} {args : List Byte} (known : 1 ≤ code ∧ code ≤ 23)
    (misfit : ¬(code = 7 ∨ code = 8 ∨ (code, args.length) ∈ fixedLengths)) : parseReq code args = none := by
  obtain ⟨low, high⟩ := known
  match args with
  | [] | [_] | [_, _] | [_, _, _] | [_, _, _, _] | _ :: _ :: _ :: _ :: _ :: _ =>
    interval_cases code <;> simp [fixedLengths] at misfit <;> rfl

theorem State.carryOut_misfit (s : State) (i : Fin 4) (src : Addr) (tag : Byte) {code : Byte} {args : List Byte}
    (known : 1 ≤ code.toNat ∧ code.toNat ≤ 23) (misfit : ¬ArgsFit code args) :
    s.carryOut i src tag code (parseReq code.toNat args) = s.respond src tag code .badArg [] := by
  by_cases write : code = 7 ∨ code = 8
  · match args with
    | [] | [_] => obtain rfl | rfl := write <;> rfl
    | x :: a :: content =>
      have size : ¬(writeSize x.toNat == some content.length) = true := fun fits =>
        misfit (.inr ⟨write, x, a, content, rfl, by simpa using fits⟩)
      obtain rfl | rfl := write <;> exact if_neg size
  · have other : ¬(code.toNat = 7 ∨ code.toNat = 8) :=
      mt (Or.imp (BitVec.eq_of_toNat_eq (y := 7)) (BitVec.eq_of_toNat_eq (y := 8))) write
    rw [parseReq_eq_none known fun fits => misfit (.inl ((or_assoc.mpr fits).resolve_left other))]
    rfl

/-- The codes of the writing operations (Table 85). -/
def writingCodes : List Nat := [4, 7, 8, 9, 10, 11, 12, 13, 14, 15, 16, 17, 18, 21, 23]

theorem writingOperation_iff {code : Nat} : writingOperation code = true ↔ code ∈ writingCodes :=
  List.contains_iff_mem

theorem writing_known {code : Nat} (writes : code ∈ writingCodes) : 1 ≤ code ∧ code ≤ 23 := by
  simp only [writingCodes, List.mem_cons, List.not_mem_nil, or_false] at writes
  omega

theorem knownOperation_iff {code : Nat} : knownOperation code = true ↔ 1 ≤ code ∧ code ≤ 23 := by
  simp [knownOperation]

section
variable {s : State} {src : Addr} {tag op : Byte} {req : Option Req} {i : Fin 4}

theorem State.decideReq_unlisted (unlisted : ∀ (i : Fin 4) e, s.agent.acc[i] = some e → e.addr ≠ src) :
    s.decideReq src tag op req = s.respond src tag op .denied [] := by
  rw [State.decideReq, State.requester_eq_none unlisted]

theorem State.decideReq_unknown (requester : s.requester src = some i) (unknown : ¬(1 ≤ op.toNat ∧ op.toNat ≤ 23)) :
    s.decideReq src tag op req = s.respond src tag op .badArg [] := by
  have no : knownOperation op.toNat = false := Bool.eq_false_iff.mpr (mt knownOperation_iff.mp unknown)
  simp only [State.decideReq, requester, no, Bool.not_false, if_true]

theorem State.decideReq_level (requester : s.requester src = some i) (known : 1 ≤ op.toNat ∧ op.toNat ≤ 23) :
    s.decideReq src tag op req =
      if writingOperation op.toNat = true ∧ s.levelOf i = .read then s.respond src tag op .denied []
      else s.carryOut i src tag op req := by
  simp [State.decideReq, requester, knownOperation_iff.mpr known]

end

section
variable {s : State} {f : Frame}

theorem State.takeMreq_full (full : 4 ≤ s.agent.responses.length) : s.takeMreq f = s.count 8 := if_pos full

theorem State.takeMreq_short (short : f.payload.length < 2) : s.takeMreq f = s.count 8 := by
  have dropped : s.decidePayload f.srcAddr f.payload = s.count 8 := by
    match f.payload, short with
    | [], _ | [_], _ => rfl
  rw [State.takeMreq, dropped, ite_self]

theorem State.takeMreq_request {tag code : Byte} {args : List Byte} (room : s.agent.responses.length < 4)
    (payload : f.payload = tag :: code :: args) :
    s.takeMreq f = s.decideReq f.srcAddr tag code (parseReq code.toNat args) := by
  rw [State.takeMreq, if_neg (by omega), payload]
  rfl

variable {tag code : Byte} {args : List Byte} {i : Fin 4} (room : s.agent.responses.length < 4)
  (payload : f.payload = tag :: code :: args)
include room payload

/-- R150 step 3: a source that no entry of the requester table holds. -/
theorem State.takeMreq_unlisted (unlisted : ∀ (i : Fin 4) e, s.agent.acc[i] = some e → e.addr ≠ f.srcAddr) :
    s.takeMreq f = s.answered (errFrame s.own f.srcAddr tag code 7 []) := by
  rw [State.takeMreq_request room payload, State.decideReq_unlisted unlisted, State.respond_denied]

/-- R150 step 4: an unknown operation. -/
theorem State.takeMreq_unknown (requester : s.requester f.srcAddr = some i)
    (unknown : ¬(1 ≤ code.toNat ∧ code.toNat ≤ 23)) :
    s.takeMreq f = s.answered (errFrame s.own f.srcAddr tag code 3 []) := by
  rw [State.takeMreq_request room payload, State.decideReq_unknown requester unknown, State.respond_badArg]

/-- R150 step 5: a writing operation of a requester of level READ. -/
theorem State.takeMreq_readOnly (requester : s.requester f.srcAddr = some i)
    (writes : code.toNat ∈ writingCodes) (level : s.levelOf i = .read) :
    s.takeMreq f = s.answered (errFrame s.own f.srcAddr tag code 7 []) := by
  have writing := writingOperation_iff.mpr writes
  rw [State.takeMreq_request room payload, State.decideReq_level requester (writing_known writes),
    if_pos ⟨writing, level⟩, State.respond_denied]

/-- R150 step 6: argument bytes of the wrong length. -/
theorem State.takeMreq_misfit (requester : s.requester f.srcAddr = some i)
    (known : 1 ≤ code.toNat ∧ code.toNat ≤ 23) (may : code.toNat ∉ writingCodes ∨ s.levelOf i = .write)
    (misfit : ¬ArgsFit code args) : s.takeMreq f = s.answered (errFrame s.own f.srcAddr tag code 3 []) := by
  have allowed : ¬(writingOperation code.toNat = true ∧ s.levelOf i = .read) := by
    rintro ⟨writing, level⟩
    rw [level] at may
    exact may.elim (fun no => no (writingOperation_iff.mp writing)) nofun
  rw [State.takeMreq_request room payload, State.decideReq_level requester known, if_neg allowed,
    State.carryOut_misfit s i _ _ known misfit, State.respond_badArg]

end

/-- A table write whose content has not the size of its entry does not fit (R176). -/
theorem not_argsFit_write {code x a : Byte} {content : List Byte} (write : code = 7 ∨ code = 8)
    (size : writeSize x.toNat ≠ some content.length) : ¬ArgsFit code (x :: a :: content) := by
  rintro (fixed | ⟨-, x, a, content, same, fits⟩)
  · obtain rfl | rfl := write <;> simp [fixedLengths] at fixed
  · cases same
    exact size fits

/-- Settles O54: the refusals of R150 in the order of its steps, for a frame; a row is refused as its frame is. -/
theorem requestRefusals : Obligations.RequestRefusals := by
  refine ⟨fun c s src tag code args row high => ?_, fun s f => ⟨State.takeMreq_full, fun room =>
    ⟨State.takeMreq_short, fun tag code args payload => ⟨State.takeMreq_unlisted room payload, fun i requester =>
      ⟨fun unknown => ?_, State.takeMreq_readOnly room payload requester, fun low up =>
        State.takeMreq_misfit room payload requester ⟨low, up⟩⟩⟩⟩⟩⟩
  · let f := buildFrame src s.own kindMreq (tag :: code :: args)
    have source : f.srcAddr = src := buildFrame_srcAddr ..
    have payload : f.payload = tag :: code :: args := rfl
    rw [exec_row_takeMreq row high source payload, ← source]
    refine ⟨fun full => by rw [State.takeMreq_full full], fun room => ⟨fun unlisted => ?_,
      fun i requester level writes => ?_⟩, fun i served x a content write split size => ?_⟩
    · rw [State.takeMreq_unlisted room payload unlisted]
    · rw [State.takeMreq_readOnly room payload requester writes level]
    · obtain ⟨-, room, requester, level⟩ := State.requester_of_serves served
      subst split
      have known : 1 ≤ code.toNat ∧ code.toNat ≤ 23 := by obtain rfl | rfl := write <;> decide
      rw [State.takeMreq_misfit room payload requester known (.inr (level rfl)) (not_argsFit_write write size)]
  · refine State.takeMreq_unknown room payload requester fun known => ?_
    obtain rfl | above := unknown
    · exact absurd known.1 (by decide)
    · omega

end Sys2Proof.Machine

/-! ## Laws of MODE RUN (R162) -/

namespace Sys2Proof.Machine

open Sys2Proof

/-! ### The entries that bind a role target (Table 24) -/

/-- The role targets stand in Table 24 in ranges, one a role. -/
theorem targetOf_eq_some_iff {role : Role} {index : Nat} {t : TargetNo} :
    targetOf role index = some t ↔
      (role = .zoneTc ∧ t.val < 16 ∧ index = t.val) ∨ (role = .weigh ∧ t.val = 16) ∨
      (role = .platen ∧ 17 ≤ t.val ∧ t.val < 21 ∧ index = t.val - 17) ∨
      (role = .ejectPos ∧ 21 ≤ t.val ∧ t.val < 25 ∧ index = t.val - 21) ∨
      (role = .ejectForce ∧ 25 ≤ t.val ∧ index = t.val - 25) := by
  have bound := t.isLt
  cases role <;> simp [targetOf, Fin.ext_iff] <;> omega

/-- But for WEIGH, which has no index, a target is bound by one role and index alone. -/
theorem targetOf_injective {role other : Role} {index number : Nat} {t : TargetNo} (indexed : role ≠ .weigh)
    (target : targetOf role index = some t) (same : targetOf other number = some t) :
    other = role ∧ number = index := by
  rw [targetOf_eq_some_iff] at target same
  grind

/-- An entry of the channel table has this role and role index. -/
def State.binds (s : State) (role : Role) (index : Nat) : Prop :=
  ∃ k : Fin 64, s.tables.cht[k].role = role ∧ s.tables.cht[k].index = index

theorem State.bound_iff {s : State} {role : Role} {index : Nat} {t : TargetNo} (indexed : role ≠ .weigh)
    (target : targetOf role index = some t) : s.bound t = true ↔ s.binds role index := by
  rw [State.bound, Tables.binder, List.find?_isSome]
  simp only [beq_iff_eq, ChtEntry.target]
  constructor
  · rintro ⟨k, -, binds⟩
    exact ⟨k, targetOf_injective indexed target binds⟩
  · rintro ⟨k, rfl, rfl⟩
    exact ⟨k, List.mem_finRange k, target⟩

theorem targetOf_press (p : PressNo) :
    targetOf .platen p.val = some (pressTarget 17 p) ∧ targetOf .ejectForce p.val = some (pressTarget 25 p) ∧
      targetOf .ejectPos p.val = some (pressTarget 21 p) := by
  revert p
  decide

theorem targetOf_zone (z : ZoneNo) : targetOf .zoneTc z.val = some (zoneTarget z) := dif_pos z.isLt

/-! ### The first missing item (R162 steps 4 and 5) -/

theorem flatMap_filter_eq {α β : Type} (p : α → Bool) (f : α → List β) (l : List α) :
    (l.filter p).flatMap f = l.flatMap (fun x => if p x then f x else []) := by
  induction l with
  | nil => rfl
  | cons x l ih =>
    rw [List.flatMap_cons, List.filter_cons, ← ih]
    split
    · exact List.flatMap_cons
    · rfl

/-- An item as a condition, with the two bytes that a refusal names it by (Table 108). -/
def Item.claim (x : Item) : Prop × Byte × Byte := (x.present = true, byteOf x.code, byteOf x.number)

theorem Item.claim_eq {x : Item} {holds : Prop} (same : x.present = true ↔ holds) :
    x.claim = (holds, byteOf x.code, byteOf x.number) := by
  rw [Item.claim, propext same]

/-- The claims of R162 step 4 for a zone. -/
def State.zoneClaims (s : State) (z : ZoneNo) : List (Prop × Byte × Byte) :=
  [(s.binds .zoneTc z.val, 1, byteOf z.val), (s.tables.zt[z].heater ≠ 0, 2, byteOf z.val),
    ((s.tables.lin[s.tables.zt[z].curve]).Pairwise (fun a b => a.raw < b.raw), 3, byteOf z.val)]

/-- The claims of R162 step 5 for a press. -/
def State.pressClaims (s : State) (p : PressNo) : List (Prop × Byte × Byte) :=
  [(s.binds .platen p.val, 4, byteOf p.val), (s.binds .ejectForce p.val, 5, byteOf p.val),
    (s.binds .ejectPos p.val, 6, byteOf p.val)]

/-- The claims of R162, for the zones of every press and then for every press with a zone list. -/
def State.runClaims (s : State) : List (Prop × Byte × Byte) :=
  allPresses.flatMap (fun p => (s.tables.pt[p].zones).flatMap s.zoneClaims) ++
    allPresses.flatMap (fun p => if s.tables.pt[p].zones = [] then [] else s.pressClaims p)

theorem State.zoneItems_claims (s : State) (z : ZoneNo) :
    [s.itemTc z, s.itemHeater z, s.itemCurve z].map Item.claim = s.zoneClaims z := by
  rw [List.map_cons, List.map_cons, List.map_cons, List.map_nil,
    Item.claim_eq (State.bound_iff (by decide) (targetOf_zone z)), Item.claim_eq (x := s.itemHeater z) bne_iff_ne,
    Item.claim_eq (x := s.itemCurve z) (curveValid_iff_pairwise _)]
  rfl

theorem State.itemsPress_claims (s : State) (p : PressNo) : (s.itemsPress p).map Item.claim = s.pressClaims p := by
  obtain ⟨platen, force, pos⟩ := targetOf_press p
  rw [State.itemsPress, List.map_cons, List.map_cons, List.map_cons, List.map_nil,
    Item.claim_eq (State.bound_iff (by decide) platen), Item.claim_eq (State.bound_iff (by decide) force),
    Item.claim_eq (State.bound_iff (by decide) pos)]
  rfl

/-- The items that MODE RUN looks at are the claims of R162 in their order. -/
theorem State.itemsRun_claims (s : State) : s.itemsRun.map Item.claim = s.runClaims := by
  have listed (p : PressNo) : (if !(s.tables.pt[p].zones.isEmpty) then s.itemsPress p else []).map Item.claim =
      if s.tables.pt[p].zones = [] then [] else s.pressClaims p := by
    by_cases empty : s.tables.pt[p].zones = []
    · rw [if_pos empty, empty]
      rfl
    · have filled : (!(s.tables.pt[p].zones.isEmpty)) = true := by
        rw [Bool.not_eq_true', List.isEmpty_eq_false_iff]
        exact empty
      rw [if_pos filled, if_neg empty, s.itemsPress_claims]
  rw [State.itemsRun, flatMap_filter_eq, List.map_append, List.map_flatMap, List.map_flatMap]
  simp only [List.map_flatMap, State.zoneItems_claims, listed]
  rfl

theorem firstMissing_eq_some {items : List Item} {before after : List (Prop × Byte × Byte)} {held : Prop}
    {code number : Byte} (split : items.map Item.claim = before ++ (held, code, number) :: after) (fails : ¬held)
    (passes : ∀ y ∈ before, y.1) :
    ∃ x, firstMissing items = some x ∧ byteOf x.code = code ∧ byteOf x.number = number := by
  obtain ⟨front, rest, rfl, rfl, rest_eq⟩ := List.map_eq_append_iff.mp split
  obtain ⟨x, back, rfl, claim, rfl⟩ := List.map_eq_cons_iff.mp rest_eq
  cases claim
  refine ⟨x, List.find?_eq_some_iff_append.mpr ⟨by simpa using fails, front, back, rfl, fun y mem => ?_⟩, rfl, rfl⟩
  have present : y.present = true := passes y.claim (List.mem_map_of_mem mem)
  simp [present]

theorem firstMissing_eq_none {items : List Item} (passes : ∀ y ∈ items.map Item.claim, y.1) :
    firstMissing items = none := by
  refine List.find?_eq_none.mpr fun x mem => ?_
  have present : x.present = true := passes x.claim (List.mem_map_of_mem mem)
  simp [present]

/-! ### What MODE RUN answers -/

theorem exec_modeRun {s : State} {src : Addr} {i : Fin 4} (tag : Byte) (served : s.serves src i true = true) :
    exec (.modeRun src tag) s = .next (finish src tag 9 s.doModeRun).kick :=
  management_of_serves tag served (fun _ => rfl) rfl

section
variable {s : State}

theorem State.doModeRun_run (run : s.mode = .run) : s.doModeRun = s.refused .badState := by
  rw [State.doModeRun, if_pos (by rw [run]; rfl)]

section
variable (config : s.mode = .config)
include config

theorem State.doModeRun_counting (counting : s.census.state = .running) : s.doModeRun = s.refused .busy := by
  rw [State.doModeRun, if_neg (by rw [config]; decide), if_pos (by rw [counting]; rfl)]

variable (done : s.census.state ≠ .running)
include done

theorem State.doModeRun_uncounted (required : s.tables.sys.censusRequired = true)
    (unpassed : s.census.passLatch = false) :
    s.doModeRun = s.badTable { present := false, code := 0, number := 0 } := by
  rw [State.doModeRun, if_neg (by rw [config]; decide), if_neg (by simpa using done),
    if_pos (by rw [required, unpassed]; rfl)]

/-- With the census settled, the answer is by the first missing item. -/
theorem State.doModeRun_counted (counted : s.tables.sys.censusRequired = false ∨ s.census.passLatch = true) :
    s.doModeRun = (firstMissing s.itemsRun).elim (s.enterRun.okWith []) s.badTable := by
  have free : ¬(s.tables.sys.censusRequired && !s.census.passLatch) = true := by
    rcases counted with no | passed
    · simp [no]
    · simp [passed]
  rw [State.doModeRun, if_neg (by rw [config]; decide), if_neg (by simpa using done), if_neg free]
  cases firstMissing s.itemsRun <;> rfl

end
end

/-- Settles O50: the items of the model are the claims of R162, so the first claim that fails is the one answered. -/
theorem modeRun : Obligations.ModeRun := by
  intro s src tag i served no bound tc heater curve own items
  have claims : s.itemsRun.map Item.claim = items := s.itemsRun_claims
  have answer : exec (.modeRun src tag) s = .next (finish src tag 9 s.doModeRun).kick := exec_modeRun tag served
  refine ⟨fun run => ?_, fun config counting => ?_, fun config done => ⟨fun required unpassed => ?_, fun counted =>
    ⟨fun before after held code number split fails passes => ?_, fun passes => ?_⟩⟩⟩
  · exact answer.trans (by rw [State.doModeRun_run run]; rfl)
  · exact answer.trans (by rw [State.doModeRun_counting config counting]; rfl)
  · exact answer.trans (by rw [State.doModeRun_uncounted config done required unpassed]; rfl)
  · obtain ⟨x, missing, rfl, rfl⟩ := firstMissing_eq_some (claims.trans split) fails passes
    exact answer.trans (by rw [State.doModeRun_counted config done counted, missing]; rfl)
  · have present : firstMissing s.itemsRun = none := firstMissing_eq_none (by rw [claims]; exact passes)
    have kept : s.enterRun.own = s.own := (State.weighGate_only _).own rfl
    have ok : finish src tag 9 (s.enterRun.okWith []) = s.enterRun.answered (okFrame s.own src tag 9 []) := by
      rw [← kept]
      rfl
    rw [answer, State.doModeRun_counted config done counted, present, Option.elim_none, ok]
    rfl

end Sys2Proof.Machine
